-- ==== Sys2Proof/Word.lean ====
section
/-! DEFINITION. The widths of the block's data: source bytes, source addresses and command arguments, host registers and command words. -/

namespace Sys2Proof

/-- One byte of the source memory (00_scope.md R5). -/
abbrev Byte := BitVec 8

/-- A source byte address or a length in bytes, `ADDR_W` = 32 bits (00_scope.md R4); also the width of ARG (30_encoding.md R70). -/
abbrev Addr := BitVec 32

/-- A host register or a command word, 64 bits (10_state.md R32, 30_encoding.md R70). -/
abbrev Word := BitVec 64

end Sys2Proof
end

