-- ==== Sys2Proof/Config.lean ====
section
/-! DEFINITION. The implementation parameters of 00_scope.md R4, and the values the spec leaves open (free values, which have no body). -/

namespace Sys2Proof.Config

/-- `F_MAX`: the largest n of `f(n)` and `su(n)` (00_scope.md R4). -/
abbrev fMax : Nat := 32

/-- `LE_MAX`: the largest n of `le(n)` (00_scope.md R4, decision D12). -/
abbrev leMax : Nat := 8

/-- `LEB_MAX`: the most bytes of one leb128 (00_scope.md R4). -/
abbrev lebMax : Nat := 8

/-- `REFILL_MAX`: the most bytes one refill fetches (00_scope.md R4). -/
abbrev refillMax : Nat := 4

/-- `UVLC_SAT`: the saturated result of uvlc, 2^32 − 1 (00_scope.md R4). -/
abbrev uvlcSat : Nat := 2 ^ 32 - 1

/-- The size of the source address space, 2^32 bytes (20_memory.md R50). -/
abbrev srcSpace : Nat := 2 ^ 32

/-- `SRC_ERR` (20_memory.md R51, 93_implementation_defined.md U11): whether the `k`-th draw of the block answers `Err`,
for the reads that the state's `srcScript` says nothing about. A FREE VALUE (assumption 3). -/
opaque srcErr : Nat → Bool

/-- What a source read answers for a byte that the host has written in the session (20_memory.md R62, U10), at the
`k`-th draw. A FREE VALUE (assumption 5). -/
opaque racyByte : Nat → Byte

/-- What POS, ACC or CURSOR reads while BUSY = 1 (10_state.md R39 to R41, U9), at the `k`-th draw. A FREE VALUE
(assumption 6). -/
opaque busyRead : Nat → Word

end Sys2Proof.Config
end

