-- ==== Sys2Proof/Syntax.lean ====
section
/-! DEFINITION. The commands of the block, one constructor per row of spec/opcode_table.json (30_encoding.md R71). -/

namespace Sys2Proof

/-- A command. The argument of F, LE, SU and NS is the whole 32-bit ARG field (30_encoding.md R72); which values are
legal is `Instr.wellFormed`. -/
inductive Instr where
  /-- F, OP 0x01: read an `n`-bit unsigned field (41_cursor_reads.md R100). -/
  | f (n : BitVec 32)
  /-- F1, OP 0x02: read one bit (R101). -/
  | f1
  /-- UVLC, OP 0x03: read an Exp-Golomb-style code (R102). -/
  | uvlc
  /-- LE, OP 0x04: read `n` little-endian bytes (R103). -/
  | le (n : BitVec 32)
  /-- LEB128, OP 0x05: read an unsigned LEB128 value (R104). -/
  | leb128
  /-- SU, OP 0x06: read an `n`-bit two's-complement value (R105). -/
  | su (n : BitVec 32)
  /-- NS, OP 0x07: read a symbol of an alphabet of `n` symbols (R106). -/
  | ns (n : BitVec 32)
  /-- OBU_HDR, OP 0x08: parse one OBU header (42_obu_framer.md R130). -/
  | obuHdr
  /-- BIND, OP 0x09: start a session (43_session.md R150). -/
  | bind
  deriving DecidableEq, Repr

end Sys2Proof
end

