-- ==== Sys2Proof/WellFormed.lean ====
section
/-! DEFINITION. Which commands are well formed: ARG in the legal range of its row (30_encoding.md R71 and R73). -/

namespace Sys2Proof

/-- The range check of ARG (30_encoding.md R71, column "legal ARG"). The commands whose ARG is unused have none to
check: a nonzero ARG is refused by the decoder. -/
def Instr.wellFormed : Instr → Bool
  | .f n => decide (1 ≤ n.toNat) && decide (n.toNat ≤ Config.fMax)
  | .f1 => true
  | .uvlc => true
  | .le n => decide (1 ≤ n.toNat) && decide (n.toNat ≤ Config.leMax)
  | .leb128 => true
  | .su n => decide (1 ≤ n.toNat) && decide (n.toNat ≤ Config.fMax)
  | .ns n => decide (1 ≤ n.toNat)
  | .obuHdr => true
  | .bind => true

end Sys2Proof
end

