-- ==== Sys2Proof/Decode.lean ====
section
/-! DEFINITION. Decoding a 64-bit command word, total on all words, and the encoder (30_encoding.md R70 to R75). -/

namespace Sys2Proof

/-- Why a word is no command: each is an IllegalCommand (30_encoding.md R73 and R74). -/
inductive DecodeError where
  /-- OP is 0x00 or 0x0A to 0xFF. -/
  | reservedOpcode (op : BitVec 8)
  /-- RSV, bits 31:8, is not 0. -/
  | reservedField (rsv : BitVec 24)
  /-- ARG of F1, UVLC, LEB128, OBU_HDR or BIND is not 0. -/
  | unusedArgument (op : BitVec 8) (arg : BitVec 32)
  deriving DecidableEq, Repr

/-- OP, bits 7:0 (30_encoding.md R70). -/
def opField (w : Word) : BitVec 8 := w.extractLsb' 0 8

/-- RSV, bits 31:8 (30_encoding.md R70). -/
def rsvField (w : Word) : BitVec 24 := w.extractLsb' 8 24

/-- ARG, bits 63:32 (30_encoding.md R70 and R72). -/
def argField (w : Word) : BitVec 32 := w.extractLsb' 32 32

/-- A command whose ARG is unused takes ARG = 0 only (30_encoding.md R73). -/
def decodeNoArg (w : Word) (i : Instr) : Except DecodeError Instr :=
  if argField w = 0 then .ok i else .error (.unusedArgument (opField w) (argField w))

/-- The opcode map of 30_encoding.md R71. A word of F, LE, SU or NS decodes with whatever ARG it has, as the table's
mask says; an ARG out of its range is refused when the command starts (40_command_cycle.md R91). -/
def decodeOp (w : Word) : Except DecodeError Instr :=
  match (opField w).toNat with
  | 0x01 => .ok (.f (argField w))
  | 0x02 => decodeNoArg w .f1
  | 0x03 => decodeNoArg w .uvlc
  | 0x04 => .ok (.le (argField w))
  | 0x05 => decodeNoArg w .leb128
  | 0x06 => .ok (.su (argField w))
  | 0x07 => .ok (.ns (argField w))
  | 0x08 => decodeNoArg w .obuHdr
  | 0x09 => decodeNoArg w .bind
  | _ => .error (.reservedOpcode (opField w))

/-- The decoder (30_encoding.md R70 to R75): no prefixes, no modes, one length. -/
def decode (w : Word) : Except DecodeError Instr :=
  if rsvField w = 0 then decodeOp w else .error (.reservedField (rsvField w))

/-- The opcode of a command (30_encoding.md R71). -/
def opcodeOf : Instr → BitVec 8
  | .f _ => 0x01
  | .f1 => 0x02
  | .uvlc => 0x03
  | .le _ => 0x04
  | .leb128 => 0x05
  | .su _ => 0x06
  | .ns _ => 0x07
  | .obuHdr => 0x08
  | .bind => 0x09

/-- The ARG field of a command, 0 where it is unused (30_encoding.md R71). -/
def argOf : Instr → BitVec 32
  | .f n => n
  | .f1 => 0
  | .uvlc => 0
  | .le n => n
  | .leb128 => 0
  | .su n => n
  | .ns n => n
  | .obuHdr => 0
  | .bind => 0

/-- The encoder: ARG ‖ 0 ‖ OP (30_encoding.md R70), which is ARG·2^32 + OP (R76). -/
def encode (i : Instr) : Word := argOf i ++ (0 : BitVec 24) ++ opcodeOf i

/-- The command the decoder reads from a word given as the opcode table numbers it: `nbits` bits, those above being 0.
A command is one 64-bit word (30_encoding.md R75), so there is no order of words to lay out. -/
def decodeTableWord (nbits w : Nat) : Option Instr :=
  match decode (BitVec.ofNat 64 (w % 2 ^ nbits)) with
  | .ok i => some i
  | .error _ => none

end Sys2Proof
end

