-- ==== Sys2Proof/Machine/State.lean ====
section
/-! DEFINITION. The state of the block (10_state.md), of its source memory and of the host that drives it, as plain data; the state after reset. -/

namespace Sys2Proof.Machine

/-- The cursor's concrete state, which is what the checkpoint copies (10_state.md R20 to R22, R25 and R29). -/
structure Cursor where
  /-- ACC: the top VALID bits are the next unread bits, left-aligned (R20). -/
  acc : BitVec 32
  /-- VALID: how many of ACC's top bits are unread data, 0 to 32 (R21). -/
  valid : BitVec 6
  /-- EXH: a refill met the end of the window (R22). -/
  exh : Bool
  /-- FOFF: how many window bytes have been fetched (R25). -/
  foff : BitVec 32
  deriving DecidableEq, Repr

/-- The empty cursor, of reset (10_state.md R47) and of a fresh session (43_session.md R150). -/
def Cursor.empty : Cursor := { acc := 0, valid := 0, exh := false, foff := 0 }

/-- The refill state machine (20_memory.md R54): IDLE, or FILL(j) for j in 0..3. -/
inductive RefillFsm where
  | idle
  | fill (j : Fin 4)
  deriving DecidableEq, Repr

/-- What STATUS.ERR holds, one of the six codes of 60_exceptions.md R160. -/
inductive ErrCode where
  /-- 0: every successful command. -/
  | none
  /-- 1: fewer bits or bytes remain than a read demands (R161). -/
  | endOfStream
  /-- 2: a source read answered `Err` (R162). -/
  | sourceError
  /-- 3: a reserved bit of an OBU header is set under the strict policy (R163). -/
  | malformedField
  /-- 4: LE, LEB128 or OBU_HDR started off a byte boundary (R164). -/
  | misaligned
  /-- 5: the command word is not legal (R165). -/
  | illegalCommand
  deriving DecidableEq, Repr

/-- The fields of OBU_INFO (10_state.md R42). -/
structure ObuInfo where
  tag : BitVec 4
  typeReserved : Bool
  extFlag : Bool
  hasSize : Bool
  temporalId : BitVec 3
  spatialId : BitVec 2
  forbidden : Bool
  rsvd1 : Bool
  extRsvd3 : BitVec 3
  hdrLen : BitVec 4
  deriving DecidableEq, Repr

/-- The four registers that OBU_HDR writes (10_state.md R42 to R45). -/
structure ObuRegs where
  info : ObuInfo
  size : Word
  payloadOff : BitVec 32
  payloadLen : Word
  deriving DecidableEq, Repr

/-- The OBU registers after reset, all 0 (10_state.md R47). -/
def ObuRegs.zero : ObuRegs :=
  { info := { tag := 0, typeReserved := false, extFlag := false, hasSize := false, temporalId := 0, spatialId := 0,
              forbidden := false, rsvd1 := false, extRsvd3 := 0, hdrLen := 0 },
    size := 0, payloadOff := 0, payloadLen := 0 }

/-- What the source answers to one `SrcRead` (20_memory.md R51): the byte, `Err`, or nothing ever
(93_implementation_defined.md U13). -/
inductive SrcAnswer where
  | data
  | err
  | never
  deriving DecidableEq, Repr

/-- The source memory: (address, byte) pairs in canonical form, see `Memory.wf`. -/
abbrev Memory := List Host.Cell

/-- The byte that an address listed nowhere reads as. The spec leaves the contents open (20_memory.md R50).
DESIGN CHOICE, unsafe (assumption 4). -/
def Memory.unlisted : Byte := 0

/-- The canonical form: addresses strictly rising and inside the space, no byte equal to an unlisted one. -/
def Memory.wf : Memory → Bool
  | [] => true
  | (a, b) :: m =>
    decide (a < Config.srcSpace) && decide (b ≠ Memory.unlisted) && m.all (fun c => decide (a < c.1)) && Memory.wf m

/-- One action of the host, the outside agent that drives the block (assumption 2). -/
inductive HostOp where
  /-- `RegWrite`: a whole register at a byte offset (10_state.md R32). -/
  | regWrite (off : Nat) (v : Word)
  /-- `RegRead`: a whole register at a byte offset (10_state.md R32). -/
  | regRead (off : Nat)
  /-- An access narrower or wider than a register, which the interface does not have (10_state.md R32, D37). -/
  | partialAccess (off width : Nat)
  /-- The host writes a byte of the source memory (20_memory.md R62). -/
  | srcWrite (a : Addr) (b : Byte)
  /-- The host makes no access until it sees BUSY = 0 (70_reset_and_hazards.md R183). -/
  | awaitDone
  /-- The reset input is asserted (70_reset_and_hazards.md R180). -/
  | reset
  deriving DecidableEq, Repr

/-- The block, its source memory and its host. -/
structure State where
  /-- ACC, VALID, EXH, FOFF (10_state.md R20 to R22, R25). -/
  cur : Cursor
  /-- CKPT (R29). -/
  ckpt : Cursor
  /-- The refill state machine (20_memory.md R54). -/
  fsm : RefillFsm
  /-- SESS_BASE (10_state.md R24). -/
  sessBase : BitVec 32
  /-- SESS_LEN (R24). -/
  sessLen : BitVec 32
  /-- CTRL.STRICT (R33). -/
  strict : Bool
  /-- STATUS.BUSY (R34). -/
  busy : Bool
  /-- STATUS.RES_VALID (R34). -/
  resValid : Bool
  /-- STATUS.ERR (R34). -/
  err : ErrCode
  /-- STATUS.RSVD_WARN (R34). -/
  rsvdWarn : Bool
  /-- STATUS.OVERRUN (R34). -/
  overrun : Bool
  /-- The latched command word (40_command_cycle.md R90). -/
  cmdWord : Word
  /-- STRICT_s, CTRL.STRICT as sampled at issue (40_command_cycle.md R90). -/
  strictS : Bool
  /-- RESULT (10_state.md R36). -/
  result : Word
  /-- SRC_BASE (R37). -/
  srcBase : BitVec 32
  /-- SRC_LEN (R38). -/
  srcLen : BitVec 32
  /-- OBU_INFO, OBU_SIZE, PAYLOAD_OFF, PAYLOAD_LEN (R42 to R45). -/
  obu : ObuRegs
  /-- SRC_MEM (20_memory.md R50). -/
  mem : Memory
  /-- The model's own: addresses of the bound window that the host has written in this session (20_memory.md R62). -/
  tainted : List Nat
  /-- The model's own: the source's next answers, oldest first (20_memory.md R51); past its end they are free. -/
  srcScript : List SrcAnswer
  /-- The model's own: the number of draws made, which the free values are applied to. -/
  draws : Nat
  /-- The model's own: the host's pending actions, oldest first. -/
  inbox : List HostOp
  /-- The model's own: what the host's last register read answered. -/
  rdata : Word
  deriving DecidableEq, Repr

/-- Why a step stops with no next state and the machine stuck. -/
inductive Fault where
  /-- The source never answers a `SrcRead`, so the command never completes (93_implementation_defined.md U13). Raised by
  any command that reads the source, only when `srcScript` says so. Safe: the block would stay BUSY. -/
  | sourceNeverAnswers
  deriving DecidableEq, Repr

/-- What the model gives no meaning to. -/
inductive Refusal where
  /-- A command whose meaning is not written. Raised by `exec` only. Safe. -/
  | notModelled (mnemonic : String)
  /-- A host access at an offset that is not a multiple of 8 or is at or above 0x80, which "is not defined by this spec
  and a model refuses it" (10_state.md R46). Raised by a host access. Safe. -/
  | undefinedOffset (off : Nat)
  /-- A host access of other than a whole register (10_state.md R32, D37: "partial accesses refused"). Raised by a host
  access. Safe. -/
  | partialAccess (off width : Nat)
  deriving DecidableEq, Repr

/-- The state after reset (10_state.md R47). Fields the spec gives no value: `ckpt` (assumption 8), `cmdWord` and
`strictS` (9), `mem` (4), `tainted` (5), `srcScript` (3), `draws` (7), `inbox` (2), `rdata` (10). -/
def State.reset : State where
  cur := Cursor.empty
  ckpt := Cursor.empty
  fsm := .idle
  sessBase := 0
  sessLen := 0
  strict := true
  busy := false
  resValid := false
  err := .none
  rsvdWarn := false
  overrun := false
  cmdWord := 0
  strictS := true
  result := 0
  srcBase := 0
  srcLen := 0
  obu := ObuRegs.zero
  mem := []
  tainted := []
  srcScript := []
  draws := 0
  inbox := []
  rdata := 0

end Sys2Proof.Machine
end

