-- ==== Sys2Proof/Machine/Flags.lean ====
section
/-! DEFINITION. The STATUS and CTRL registers: error codes, the STATUS word, write-1-to-clear (10_state.md R33 and R34, 60_exceptions.md R160). -/

namespace Sys2Proof.Machine

/-- The number of an error code (60_exceptions.md R160). -/
def ErrCode.code : ErrCode → BitVec 4
  | .none => 0
  | .endOfStream => 1
  | .sourceError => 2
  | .malformedField => 3
  | .misaligned => 4
  | .illegalCommand => 5

/-- STATUS as the host reads it (10_state.md R34): bit 0 BUSY, 1 RES_VALID, 7:4 ERR, 8 EXH, 9 RSVD_WARN, 10 OVERRUN,
the others 0. -/
def statusWord (s : State) : Word :=
  (0 : BitVec 53) ++ BitVec.ofBool s.overrun ++ BitVec.ofBool s.rsvdWarn ++ BitVec.ofBool s.cur.exh ++ s.err.code
    ++ (0 : BitVec 2) ++ BitVec.ofBool s.resValid ++ BitVec.ofBool s.busy

/-- CTRL as the host reads it (10_state.md R33): bit 0 STRICT, the others 0. -/
def ctrlWord (s : State) : Word := (0 : BitVec 63) ++ BitVec.ofBool s.strict

/-- A host write of STATUS (10_state.md R34): a 1 in bit 9 or 10 clears that sticky bit, all else is ignored. -/
def State.clearSticky (s : State) (v : Word) : State :=
  { s with rsvdWarn := s.rsvdWarn && !v.getLsbD 9, overrun := s.overrun && !v.getLsbD 10 }

/-- A host write while BUSY = 1 sets OVERRUN and does nothing else (40_command_cycle.md R96). -/
def State.setOverrun (s : State) : State := { s with overrun := true }

end Sys2Proof.Machine
end

