-- ==== Sys2Proof/Machine/Operands.lean ====
section
/-! DEFINITION. The operand forms: legal ARG values, the cursor position and its alignment, and the host register map (30_encoding.md R73, 10_state.md R32 to R46). -/

namespace Sys2Proof.Machine

/-! ### ARG -/

/-- The legal ARG of F and SU, 1..32 bits (30_encoding.md R71). -/
def legalBits (n : BitVec 32) : Bool := decide (1 ≤ n.toNat) && decide (n.toNat ≤ Config.fMax)

/-- The legal ARG of LE, 1..8 bytes (30_encoding.md R71). -/
def legalBytes (n : BitVec 32) : Bool := decide (1 ≤ n.toNat) && decide (n.toNat ≤ Config.leMax)

/-- The legal ARG of NS, 1..2^32−1 symbols (30_encoding.md R71). -/
def legalAlphabet (n : BitVec 32) : Bool := decide (1 ≤ n.toNat)

/-- BIND is legal when SRC_BASE + SRC_LEN ≤ 2^32 (30_encoding.md R73, 43_session.md R150). -/
def legalWindow (s : State) : Bool := decide (s.srcBase.toNat + s.srcLen.toNat ≤ Config.srcSpace)

/-! ### The cursor's position -/

/-- POS = 8·FOFF − VALID (10_state.md R27, assumption 17). -/
def State.pos (s : State) : Nat := 8 * s.cur.foff.toNat - s.cur.valid.toNat

/-- `aligned()`: VALID mod 8 = 0 (20_memory.md R59). -/
def State.aligned (s : State) : Bool := decide (s.cur.valid.toNat % 8 = 0)

/-! ### The host register map -/

/-- The host registers (10_state.md R32). -/
inductive HostReg where
  | ctrl | status | cmd | result | srcBase | srcLen | pos | acc | cursor | obuInfo | obuSize | payloadOff | payloadLen
  /-- Registers 13 to 15 (R46). -/
  | reserved
  deriving DecidableEq, Repr

/-- The register at a number, 0 to 15 (10_state.md R32). -/
def hostRegAt (number : Nat) : Option HostReg :=
  match number with
  | 0 => some .ctrl
  | 1 => some .status
  | 2 => some .cmd
  | 3 => some .result
  | 4 => some .srcBase
  | 5 => some .srcLen
  | 6 => some .pos
  | 7 => some .acc
  | 8 => some .cursor
  | 9 => some .obuInfo
  | 10 => some .obuSize
  | 11 => some .payloadOff
  | 12 => some .payloadLen
  | 13 => some .reserved
  | 14 => some .reserved
  | 15 => some .reserved
  | _ => none

/-- The register at a byte offset 8·number; no other offset is defined (10_state.md R32 and R46). -/
def hostRegOf (off : Nat) : Option HostReg := if off % 8 = 0 then hostRegAt (off / 8) else none

/-- The ACC register (10_state.md R40): bits 31:0 ACC, bits 63:32 0. -/
def accWord (s : State) : Word := (0 : BitVec 32) ++ s.cur.acc

/-- The CURSOR register (10_state.md R41): bits 5:0 VALID, bit 8 EXH, bits 63:32 FOFF, the others 0. -/
def cursorWord (s : State) : Word :=
  s.cur.foff ++ (0 : BitVec 23) ++ BitVec.ofBool s.cur.exh ++ (0 : BitVec 2) ++ s.cur.valid

/-- The OBU_INFO register (10_state.md R42): 3:0 TYPE, 4 TYPE_RESERVED, 5 EXT_FLAG, 6 HAS_SIZE, 9:7 TEMPORAL_ID,
11:10 SPATIAL_ID, 12 FORBIDDEN, 13 RSVD1, 16:14 EXT_RSVD3, 20:17 HDR_LEN, 63:21 0. -/
def ObuInfo.word (o : ObuInfo) : Word :=
  (0 : BitVec 43) ++ o.hdrLen ++ o.extRsvd3 ++ BitVec.ofBool o.rsvd1 ++ BitVec.ofBool o.forbidden ++ o.spatialId
    ++ o.temporalId ++ BitVec.ofBool o.hasSize ++ BitVec.ofBool o.extFlag ++ BitVec.ofBool o.typeReserved ++ o.tag

/-- What a register reads as when the block is not executing a command (10_state.md R33 to R46). -/
def hostRegValue (r : HostReg) (s : State) : Word :=
  match r with
  | .ctrl => ctrlWord s
  | .status => statusWord s
  | .cmd => 0
  | .result => s.result
  | .srcBase => (0 : BitVec 32) ++ s.srcBase
  | .srcLen => (0 : BitVec 32) ++ s.srcLen
  | .pos => BitVec.ofNat 64 s.pos
  | .acc => accWord s
  | .cursor => cursorWord s
  | .obuInfo => s.obu.info.word
  | .obuSize => s.obu.size
  | .payloadOff => (0 : BitVec 32) ++ s.obu.payloadOff
  | .payloadLen => s.obu.payloadLen
  | .reserved => 0

/-- The registers whose value is unspecified while BUSY = 1 (10_state.md R39 to R41). -/
def HostReg.freeWhileBusy : HostReg → Bool
  | .pos => true
  | .acc => true
  | .cursor => true
  | _ => false

end Sys2Proof.Machine
end

