-- ==== Sys2Proof/Machine/Ops.lean ====
section
/-! DEFINITION. The shared operations: the source memory and its reads, the refill, `take`, and the command cycle with its commit and its failure path (20_memory.md, 40_command_cycle.md). -/

namespace Sys2Proof.Machine

/-! ### The source memory -/

/-- The byte at a source address (20_memory.md R50). -/
def memRead : Memory → Nat → Byte
  | [], _ => Memory.unlisted
  | (a, b) :: m, x => if x = a then b else memRead m x

/-- Put a byte in front of a memory whose addresses are all higher, keeping the canonical form. -/
def memCons (x : Nat) (v : Byte) (m : Memory) : Memory :=
  if v = Memory.unlisted then m else (x, v) :: m

/-- Write one byte of the source memory, keeping the canonical form. Only the host writes it (20_memory.md R62). -/
def memWrite : Memory → Nat → Byte → Memory
  | [], x, v => memCons x v []
  | (a, b) :: m, x, v =>
    if x < a then memCons x v ((a, b) :: m)
    else if x = a then memCons x v m
    else (a, b) :: memWrite m x v

/-! ### What a command's body answers -/

/-- The result of a body or of a part of one: a value, an error raised (`raise E` of 00_scope.md R9), or a source that
never answers. The state in `raise` is the one at the raise, before the failure path. -/
inductive Res (α : Type) where
  | ok (v : α) (s : State)
  | raise (e : ErrCode) (s : State)
  | stuck
  deriving DecidableEq, Repr

/-- Go on with a value; an error or a stuck read ends the body at once (60_exceptions.md R166). -/
def Res.bind {α β : Type} : Res α → (α → State → Res β) → Res β
  | .ok v s, k => k v s
  | .raise e s, _ => .raise e s
  | .stuck, _ => .stuck

/-! ### Source reads -/

/-- What the source answers to the `k`-th read from now (20_memory.md R51, `SRC_ERR`): what `srcScript` lists, and past
its end a free choice between the byte and `Err` (assumption 3). -/
def State.answerAt (s : State) (k : Nat) : SrcAnswer :=
  match s.srcScript[k]? with
  | some a => a
  | none => if Config.srcErr (s.draws + k) then .err else .data

/-- The address of the next byte to fetch, SESS_BASE + FOFF on the `ADDR_W` = 32 address lines (10_state.md R25,
assumption 17). -/
def State.srcAddr (s : State) : Nat := (s.sessBase + s.cur.foff).toNat

/-- The byte the source holds there; any value if the host wrote it in this session (20_memory.md R51 and R62). -/
def State.srcByte (s : State) : Byte :=
  if s.srcAddr ∈ s.tainted then Config.racyByte s.draws else memRead s.mem s.srcAddr

/-- One draw is used up by every `SrcRead`, "a draw made afresh for every read" (20_memory.md R51). -/
def State.nextAnswer (s : State) : State :=
  { s with srcScript := s.srcScript.tail, draws := s.draws + 1 }

/-- `SrcRead(SESS_BASE + FOFF)` (20_memory.md R51 and R52): the byte, or a SourceError (60_exceptions.md R162). -/
def srcRead (s : State) : Res Byte :=
  match s.answerAt 0 with
  | .data => .ok s.srcByte s.nextAnswer
  | .err => .raise .sourceError s.nextAnswer
  | .never => .stuck

/-! ### Refill (20_memory.md R54) -/

/-- Replace the cursor. -/
def State.setCur (s : State) (c : Cursor) : State := { s with cur := c }

/-- Move the refill state machine. -/
def State.setFsm (s : State) (f : RefillFsm) : State := { s with fsm := f }

/-- `ACC[31-8j : 24-8j] <- b; FOFF <- FOFF + 1` (R54), below the `j` bytes loaded since ACC was cleared. -/
def Cursor.loadByte (c : Cursor) (j : Nat) (b : Byte) : Cursor :=
  { c with acc := c.acc ||| (b.setWidth 32 <<< (24 - 8 * j)), foff := c.foff + 1 }

/-- `VALID <- 8*j`, and back to IDLE (R54). -/
def State.endRefill (s : State) (j : Nat) : State :=
  (s.setCur { s.cur with valid := BitVec.ofNat 6 (8 * j) }).setFsm .idle

/-- `EXH <- 1`: the end of the window was met (R54). -/
def State.markExhausted (s : State) : State := s.setCur { s.cur with exh := true }

/-- The loop of R54 with `j` bytes loaded and `k` still to try, `j + k = 4`. -/
def fillFrom : (k j : Nat) → State → Res Unit
  | 0, j, s => .ok () (s.endRefill j)
  | k + 1, j, s =>
    if s.cur.foff = s.sessLen then .ok () (s.markExhausted.endRefill j)
    else (srcRead (s.setFsm (.fill (Fin.ofNat 4 j)))).bind fun b s => fillFrom k (j + 1) (s.setCur (s.cur.loadByte j b))

/-- `refill()` (20_memory.md R54): `ACC <- 0; j <- 0`, then up to 4 fresh bytes. -/
def refill (s : State) : Res Unit :=
  fillFrom Config.refillMax 0 (s.setCur { s.cur with acc := 0 })

/-! ### take (20_memory.md R55) -/

/-- `ACC[31 : 32-n]`, the top `n` bits as an unsigned value, 0 for `n` = 0 (00_scope.md R6). -/
def Cursor.top (c : Cursor) (n : Nat) : Nat := c.acc.toNat >>> (32 - n)

/-- `ACC <- (ACC << n) mod 2^32; VALID <- VALID - n` (R55). -/
def Cursor.drop (c : Cursor) (n : Nat) : Cursor :=
  { c with acc := c.acc <<< n, valid := c.valid - BitVec.ofNat 6 n }

/-- `take(n)` for 0 ≤ n ≤ 32 (20_memory.md R55): the next `n` unread bits, most significant first. -/
def take (n : Nat) (s : State) : Res Nat :=
  if n = 0 then .ok 0 s
  else if n ≤ s.cur.valid.toNat then .ok (s.cur.top n) (s.setCur (s.cur.drop n))
  else if s.cur.exh then .raise .endOfStream s
  else
    let h := s.cur.valid.toNat
    let hi := s.cur.top h
    let need := n - h
    (refill s).bind fun _ s =>
      if s.cur.valid.toNat < need then .raise .endOfStream s
      else .ok ((hi <<< need) ||| s.cur.top need) (s.setCur (s.cur.drop need))

/-! ### The command cycle (40_command_cycle.md) -/

/-- `CKPT <- (ACC, VALID, EXH, FOFF)` (R92). -/
def State.checkpoint (s : State) : State := { s with ckpt := s.cur }

/-- `(ACC, VALID, EXH, FOFF) <- CKPT` (R94); the refill that an error interrupted is over. -/
def State.rollback (s : State) : State := { s with cur := s.ckpt, fsm := .idle }

/-- A failure is reported (R94, 60_exceptions.md R167): STATUS.ERR <- the code, RES_VALID <- 0, BUSY <- 0, and nothing
else. This is the block's whole error entry: no handler, no saved state. -/
def State.failWith (s : State) (e : ErrCode) : State := { s with err := e, resValid := false, busy := false }

/-- Commit of a command that returns a value (R93). -/
def State.succeed (s : State) (v : Word) : State :=
  { s with result := v, err := .none, resValid := true, busy := false }

/-- Commit of a command that returns no value (R93, BIND). -/
def State.succeedNoValue (s : State) : State := { s with err := .none, resValid := false, busy := false }

/-- How a body's answer ends the command: commit (R93), rollback (R94), or never (93_implementation_defined.md U13). -/
def finish : Res (Option Word) → Host.Outcome State Fault Refusal
  | .ok (some v) s => .next (s.succeed v)
  | .ok none s => .next s.succeedNoValue
  | .raise e s => .next (s.rollback.failWith e)
  | .stuck => .fault .sourceNeverAnswers

/-- An illegal command fails before it reads the source or touches the cursor (R91). -/
def illegal (s : State) : Host.Outcome State Fault Refusal := .next (s.failWith .illegalCommand)

/-- The command cycle after decode (R91 to R95): legality of the operands, checkpoint, body, completion. -/
def command (legal : Bool) (body : State → Res (Option Word)) (s : State) : Host.Outcome State Fault Refusal :=
  if legal then finish (body s.checkpoint) else illegal s

/-- The body returns the number `v` as a 64-bit value, modulo 2^64 (00_scope.md R7). -/
def ret (v : Nat) (s : State) : Res (Option Word) := .ok (some (BitVec.ofNat 64 v)) s

end Sys2Proof.Machine
end

