-- ==== Sys2Proof/Machine/CursorReads.lean ====
section
/-! DEFINITION. The meanings of the seven Bit Cursor read commands (41_cursor_reads.md R100 to R106). -/

namespace Sys2Proof.Machine

/-- A body that runs only on a byte boundary, `if not aligned(): raise Misaligned` (20_memory.md R59, R164). -/
def onByteBoundary (body : State → Res (Option Word)) (s : State) : Res (Option Word) :=
  if s.aligned then body s else .raise .misaligned s

/-- F: `f(n)` (R100). -/
def bodyF (n : BitVec 32) (s : State) : Res (Option Word) := (take n.toNat s).bind ret

/-- F (41_cursor_reads.md R100). -/
def execF (n : BitVec 32) (s : State) : Host.Outcome State Fault Refusal := command (legalBits n) (bodyF n) s

/-- F1: `f1()` (R101). -/
def bodyF1 (s : State) : Res (Option Word) := (take 1 s).bind ret

/-- F1 (41_cursor_reads.md R101). -/
def execF1 (s : State) : Host.Outcome State Fault Refusal := command true bodyF1 s

/-- The zero run of uvlc (R102): `k` zeros counted so far, the counter saturating at 32. `fuel` bounds the recursion;
see `uvlcFuel`. -/
def uvlcRun : (fuel k : Nat) → State → Res Nat
  | 0, _, s => .raise .endOfStream s
  | fuel + 1, k, s => (take 1 s).bind fun b s => if b = 1 then .ok k s else uvlcRun fuel (min (k + 1) 32) s

/-- More bits than any window holds: at most 2^32 bytes are fetched before FOFF = SESS_LEN, so the run always ends before
the fuel does (assumption 18). -/
def uvlcFuel : Nat := 2 ^ 36

/-- The value of a uvlc code after a run of `k` zeros and its one bit (R102). -/
def uvlcTail (k : Nat) (s : State) : Res (Option Word) :=
  if 32 ≤ k then ret Config.uvlcSat s else (take k s).bind fun suffix s => ret (suffix + 2 ^ k - 1) s

/-- UVLC: `uvlc()` (R102). -/
def bodyUvlc (s : State) : Res (Option Word) := (uvlcRun uvlcFuel 0 s).bind uvlcTail

/-- UVLC (41_cursor_reads.md R102). -/
def execUvlc (s : State) : Host.Outcome State Fault Refusal := command true bodyUvlc s

/-- The loop of le(n) (R103): `m` bytes still to read, the next one at byte position `i` of the value. -/
def leBytes : (m i v : Nat) → State → Res Nat
  | 0, _, v, s => .ok v s
  | m + 1, i, v, s => (take 8 s).bind fun b s => leBytes m (i + 1) (v + b <<< (8 * i)) s

/-- LE: `le(n)` (R103). -/
def bodyLe (n : BitVec 32) : State → Res (Option Word) :=
  onByteBoundary fun s => (leBytes n.toNat 0 0 s).bind ret

/-- LE (41_cursor_reads.md R103). -/
def execLe (n : BitVec 32) (s : State) : Host.Outcome State Fault Refusal := command (legalBytes n) (bodyLe n) s

/-- The loop of leb128 (R104), used by OBU_HDR too: `m` bytes still allowed, `i` read so far; the value and the number
of bytes read. -/
def lebBytes : (m i v : Nat) → State → Res (Nat × Nat)
  | 0, i, v, s => .ok (v, i) s
  | m + 1, i, v, s =>
    (take 8 s).bind fun b s =>
      let v := v + (b % 128) <<< (7 * i)
      if b < 128 then .ok (v, i + 1) s else lebBytes m (i + 1) v s

/-- LEB128: `leb128()` (R104). -/
def bodyLeb128 : State → Res (Option Word) :=
  onByteBoundary fun s => (lebBytes Config.lebMax 0 0 s).bind fun v s => ret v.1 s

/-- LEB128 (41_cursor_reads.md R104). -/
def execLeb128 (s : State) : Host.Outcome State Fault Refusal := command true bodyLeb128 s

/-- The signed value of an `n`-bit pattern: `m - 2^n` when its top bit is set (R105). -/
def suValue (n m : Nat) : Int := if m.testBit (n - 1) then (m : Int) - 2 ^ n else m

/-- SU: `su(n)` (R105), two's complement in 64 bits (00_scope.md R8). -/
def bodySu (n : BitVec 32) (s : State) : Res (Option Word) :=
  (take n.toNat s).bind fun m s => .ok (some (BitVec.ofInt 64 (suValue n.toNat m))) s

/-- SU (41_cursor_reads.md R105). -/
def execSu (n : BitVec 32) (s : State) : Host.Outcome State Fault Refusal := command (legalBits n) (bodySu n) s

/-- `w = floor(log2 n) + 1` (R106). -/
def nsWidth (n : Nat) : Nat := Nat.log2 n + 1

/-- `m = 2^w - n`, the number of symbols with a code of w − 1 bits (R106). -/
def nsShort (n : Nat) : Nat := 2 ^ nsWidth n - n

/-- NS: `ns(n)` (R106). -/
def bodyNs (n : BitVec 32) (s : State) : Res (Option Word) :=
  (take (nsWidth n.toNat - 1) s).bind fun v s =>
    if v < nsShort n.toNat then ret v s
    else (take 1 s).bind fun e s => ret (2 * v - nsShort n.toNat + e) s

/-- NS (41_cursor_reads.md R106). -/
def execNs (n : BitVec 32) (s : State) : Host.Outcome State Fault Refusal := command (legalAlphabet n) (bodyNs n) s

end Sys2Proof.Machine
end

