-- ==== Sys2Proof/Machine/ObuFramer.lean ====
section
/-! DEFINITION. The meaning of OBU_HDR (42_obu_framer.md R130 to R135; 30_encoding.md R79 to R84). -/

namespace Sys2Proof.Machine

/-- The header byte's fields (30_encoding.md R80). -/
structure HeaderByte where
  forbidden : Bool
  tag : BitVec 4
  ext : Bool
  hasSize : Bool
  rsvd1 : Bool
  deriving DecidableEq, Repr

/-- obu_forbidden_bit 7, obu_type 6:3, obu_extension_flag 2, obu_has_size_field 1, obu_reserved_1bit 0
(30_encoding.md R80). -/
def headerByte (b : Byte) : HeaderByte where
  forbidden := b.getLsbD 7
  tag := b.extractLsb' 3 4
  ext := b.getLsbD 2
  hasSize := b.getLsbD 1
  rsvd1 := b.getLsbD 0

/-- The extension byte's fields (30_encoding.md R81). -/
structure ExtByte where
  temporalId : BitVec 3
  spatialId : BitVec 2
  rsvd3 : BitVec 3
  deriving DecidableEq, Repr

/-- temporal_id 7:5, spatial_id 4:3, extension_header_reserved_3bits 2:0 (30_encoding.md R81). -/
def extByte (b : Byte) : ExtByte where
  temporalId := b.extractLsb' 5 3
  spatialId := b.extractLsb' 3 2
  rsvd3 := b.extractLsb' 0 3

/-- The extension fields of a header without the extension byte, all 0 (10_state.md R42). -/
def ExtByte.absent : ExtByte := { temporalId := 0, spatialId := 0, rsvd3 := 0 }

/-- The type tags that map to Reserved: 0 and 9 to 14 (42_obu_framer.md R131). -/
def reservedTag (tag : BitVec 4) : Bool := decide (tag.toNat = 0) || (decide (9 ≤ tag.toNat) && decide (tag.toNat ≤ 14))

/-- The reserved-bit-not-zero condition of the header byte (42_obu_framer.md R132). -/
def HeaderByte.dirty (h : HeaderByte) : Bool := h.forbidden || h.rsvd1

/-- The reserved-bit-not-zero condition of the extension byte (42_obu_framer.md R132). -/
def ExtByte.dirty (x : ExtByte) : Bool := decide (x.rsvd3 ≠ 0)

/-- One policy check: the strict policy, as sampled at issue, rejects a reserved-bit-not-zero condition
(42_obu_framer.md R132). -/
def checkReserved (dirty : Bool) (s : State) : Res Unit :=
  if dirty && s.strictS then .raise .malformedField s else .ok () s

/-- Read the header byte and check it (42_obu_framer.md R130). -/
def readHeader (s : State) : Res HeaderByte :=
  (take 8 s).bind fun b s =>
    let h := headerByte (BitVec.ofNat 8 b)
    (checkReserved h.dirty s).bind fun _ s => .ok h s

/-- Read the extension byte, when there is one, and check it (42_obu_framer.md R130). -/
def readExt (present : Bool) (s : State) : Res ExtByte :=
  if present then
    (take 8 s).bind fun b s =>
      let x := extByte (BitVec.ofNat 8 b)
      (checkReserved x.dirty s).bind fun _ s => .ok x s
  else .ok ExtByte.absent s

/-- Read the leb128 size, when there is one: the size and the number of its bytes (30_encoding.md R83). -/
def readSize (present : Bool) (s : State) : Res (Nat × Nat) :=
  if present then lebBytes Config.lebMax 0 0 s else .ok (0, 0) s

/-- OBU_INFO of a parsed header of `len` bytes (42_obu_framer.md R130 and R134). -/
def obuInfoOf (h : HeaderByte) (x : ExtByte) (len : Nat) : ObuInfo where
  tag := h.tag
  typeReserved := reservedTag h.tag
  extFlag := h.ext
  hasSize := h.hasSize
  temporalId := x.temporalId
  spatialId := x.spatialId
  forbidden := h.forbidden
  rsvd1 := h.rsvd1
  extRsvd3 := x.rsvd3
  hdrLen := BitVec.ofNat 4 len

/-- Write the OBU registers, and set RSVD_WARN when a reserved-bit condition was accepted (42_obu_framer.md R134). -/
def State.writeObu (s : State) (o : ObuRegs) (warn : Bool) : State :=
  { s with obu := o, rsvdWarn := s.rsvdWarn || warn }

/-- The payload's length: the explicit size, which must fit the remainder of the window, or that remainder
(42_obu_framer.md R133). -/
def payloadLength (hasSize : Bool) (size rem : Nat) (s : State) : Res Nat :=
  if hasSize then (if rem < size then .raise .endOfStream s else .ok size s) else .ok rem s

/-- The end of the header parse: payload boundary, result registers, result (42_obu_framer.md R133 and R134). -/
def frameObu (h : HeaderByte) (x : ExtByte) (sz : Nat × Nat) (s : State) : Res (Option Word) :=
  let off := s.pos / 8
  (payloadLength h.hasSize sz.1 (s.sessLen.toNat - off) s).bind fun len s =>
    ret len (s.writeObu
      { info := obuInfoOf h x (1 + h.ext.toNat + sz.2),
        size := BitVec.ofNat 64 sz.1,
        payloadOff := BitVec.ofNat 32 off,
        payloadLen := BitVec.ofNat 64 len }
      (h.dirty || x.dirty))

/-- OBU_HDR (42_obu_framer.md R130). -/
def bodyObuHdr : State → Res (Option Word) :=
  onByteBoundary fun s =>
    (readHeader s).bind fun h s =>
      (readExt h.ext s).bind fun x s =>
        (readSize h.hasSize s).bind fun sz s => frameObu h x sz s

/-- OBU_HDR (42_obu_framer.md R130). -/
def execObuHdr (s : State) : Host.Outcome State Fault Refusal := command true bodyObuHdr s

end Sys2Proof.Machine
end

