-- ==== Sys2Proof/Machine/Session.lean ====
section
/-! DEFINITION. The meaning of BIND, and the reset of the block (43_session.md R150, 70_reset_and_hazards.md R180). -/

namespace Sys2Proof.Machine

/-- A session starts on the window (SRC_BASE, SRC_LEN) with an empty cursor (43_session.md R150); what the host wrote in
the session before no longer matters (20_memory.md R62). The session starts when the BIND completes: what the host wrote
while that BIND was BUSY counts as written before it (DESIGN CHOICE, assumption 24). -/
def State.openSession (s : State) : State :=
  { s with sessBase := s.srcBase, sessLen := s.srcLen, cur := Cursor.empty, tainted := [] }

/-- The body of BIND, which returns no value (43_session.md R150). -/
def bodyBind (s : State) : Res (Option Word) := .ok none s.openSession

/-- BIND (43_session.md R150). -/
def execBind (s : State) : Host.Outcome State Fault Refusal := command (legalWindow s) bodyBind s

/-- The reset input (70_reset_and_hazards.md R180): every element of the block at its reset value, a running command
abandoned. The source memory, the source's answers and the host are outside the block and keep theirs
(assumption 19). -/
def State.applyReset (s : State) : State :=
  { State.reset with
    mem := s.mem, srcScript := s.srcScript, draws := s.draws, inbox := s.inbox, rdata := s.rdata }

end Sys2Proof.Machine
end

