-- ==== Sys2Proof/Machine/Dispatch.lean ====
section
/-! DEFINITION. One arm per command. -/

namespace Sys2Proof.Machine

def exec (i : Instr) (s : State) : Host.Outcome State Fault Refusal :=
  match i with
  | .f n => Sys2Proof.Machine.execF n s
  | .f1 => Sys2Proof.Machine.execF1 s
  | .uvlc => Sys2Proof.Machine.execUvlc s
  | .le n => Sys2Proof.Machine.execLe n s
  | .leb128 => Sys2Proof.Machine.execLeb128 s
  | .su n => Sys2Proof.Machine.execSu n s
  | .ns n => Sys2Proof.Machine.execNs n s
  | .obuHdr => Sys2Proof.Machine.execObuHdr s
  | .bind => Sys2Proof.Machine.execBind s

end Sys2Proof.Machine
end

