-- ==== Sys2Proof/Machine/HostPort.lean ====
section
/-! DEFINITION. The host's side: register accesses, issue of a command, source writes, and whose turn it is (10_state.md R32, 40_command_cycle.md R90 and R96). -/

namespace Sys2Proof.Machine

/-- Issue (40_command_cycle.md R90): BUSY <- 1, the word is latched, STRICT is sampled. -/
def State.issue (s : State) (w : Word) : State := { s with busy := true, cmdWord := w, strictS := s.strict }

/-- A write of CTRL: only bit 0 is held (10_state.md R33). -/
def State.setStrict (s : State) (v : Word) : State := { s with strict := v.getLsbD 0 }

/-- A write of SRC_BASE: only bits 31:0 are held (10_state.md R37). -/
def State.setSrcBase (s : State) (v : Word) : State := { s with srcBase := v.setWidth 32 }

/-- A write of SRC_LEN: only bits 31:0 are held (10_state.md R38). -/
def State.setSrcLen (s : State) (v : Word) : State := { s with srcLen := v.setWidth 32 }

/-- A host register write with BUSY = 0 (10_state.md R32 to R46); a write of a read-only or reserved register is
ignored. -/
def hostRegSet (r : HostReg) (v : Word) (s : State) : State :=
  match r with
  | .ctrl => s.setStrict v
  | .status => s.clearSticky v
  | .cmd => s.issue v
  | .srcBase => s.setSrcBase v
  | .srcLen => s.setSrcLen v
  | .result => s
  | .pos => s
  | .acc => s
  | .cursor => s
  | .obuInfo => s
  | .obuSize => s
  | .payloadOff => s
  | .payloadLen => s
  | .reserved => s

/-- `RegWrite`: while BUSY = 1 it is ignored and sets OVERRUN (40_command_cycle.md R96). -/
def hostRegWrite (r : HostReg) (v : Word) (s : State) : State := if s.busy then s.setOverrun else hostRegSet r v s

/-- The host takes in what a register read answers. -/
def State.setRdata (s : State) (v : Word) : State := { s with rdata := v }

/-- One draw is used up by a register read that answers any value. -/
def State.nextDraw (s : State) : State := { s with draws := s.draws + 1 }

/-- `RegRead`: while BUSY = 1 POS, ACC and CURSOR read any value, the others their previous one (10_state.md R39 to R41,
40_command_cycle.md R95 and R96). -/
def hostRegRead (r : HostReg) (s : State) : State :=
  if s.busy && r.freeWhileBusy then (s.setRdata (Config.busyRead s.draws)).nextDraw else s.setRdata (hostRegValue r s)

/-- Whether a source address lies in the bound window (10_state.md R24). -/
def State.inWindow (s : State) (a : Nat) : Bool :=
  decide (s.sessBase.toNat ≤ a) && decide (a < s.sessBase.toNat + s.sessLen.toNat)

/-- The host writes a byte of the source memory; a byte of the bound window is any value from then on, until the session
ends (20_memory.md R62). The bound window is the last completed BIND's (assumption 24). -/
def State.srcWrite (s : State) (a : Addr) (b : Byte) : State :=
  { s with mem := memWrite s.mem a.toNat b,
           tainted := if s.inWindow a.toNat then s.tainted.insert a.toNat else s.tainted }

/-- A register access, refused at an offset the spec does not define (10_state.md R46). -/
def atOffset (off : Nat) (access : HostReg → State) : Host.Outcome State Fault Refusal :=
  match hostRegOf off with
  | some r => .next (access r)
  | none => .refused (.undefinedOffset off)

/-- One action of the host. -/
def hostOp (op : HostOp) (s : State) : Host.Outcome State Fault Refusal :=
  match op with
  | .regWrite off v => atOffset off fun r => hostRegWrite r v s
  | .regRead off => atOffset off fun r => hostRegRead r s
  | .partialAccess off width => .refused (.partialAccess off width)
  | .srcWrite a b => .next (s.srcWrite a b)
  | .awaitDone => .next s
  | .reset => .next s.applyReset

/-- The rest of the host's pending actions. -/
def State.setInbox (s : State) (ops : List HostOp) : State := { s with inbox := ops }

/-- The host's turn: its next pending action, or nothing when it has none (70_reset_and_hazards.md R191). -/
def hostTurn (s : State) : Host.Outcome State Fault Refusal :=
  match s.inbox with
  | [] => .next s
  | op :: rest => hostOp op (s.setInbox rest)

/-- The block moves next: it holds a command, and the host waits for it or has nothing more to do. Any other pending
action of the host lands while BUSY = 1 (40_command_cycle.md R96, 70_reset_and_hazards.md R190, assumption 2). -/
def blockTurn (s : State) : Bool :=
  s.busy &&
    match s.inbox with
    | [] => true
    | .awaitDone :: _ => true
    | _ => false

/-- The word of the command that the block executes next: the one latched at issue (40_command_cycle.md R90). -/
def fetch (s : State) : Word := s.cmdWord

end Sys2Proof.Machine
end

