-- ==== Sys2Proof/Machine/Step.lean ====
section
/-! DEFINITION. One step: the block executes the command it holds, or the host acts. -/

namespace Sys2Proof.Machine

/-- The block executes the word it latched (40_command_cycle.md R91): a word that decodes to no command fails with
IllegalCommand. -/
def runLatched (s : State) : Host.Outcome State Fault Refusal :=
  match decode (fetch s) with
  | .ok i => exec i s
  | .error _ => illegal s

/-- One step. A whole command is one step (40_command_cycle.md R95, assumption 1). -/
def step (s : State) : Host.Outcome State Fault Refusal := if blockTurn s then runLatched s else hostTurn s

/-- The state in which the very next step executes the command word `w`, its bits above `nbits` being 0: the host has
written it to CMD (so BUSY = 1, the word is latched and STRICT sampled) and waits for it (assumption 2). -/
def State.withFetchWord (s : State) (nbits w : Nat) : State :=
  (s.issue (BitVec.ofNat 64 (w % 2 ^ nbits))).setInbox (.awaitDone :: s.inbox)

end Sys2Proof.Machine
end

