-- ==== Sys2Proof/Machine/Assembler.lean ====
section
/-! DEFINITION. The assembler notation of 30_encoding.md R76: one command or one host register access a line. A line is a list of characters. -/

namespace Sys2Proof.Machine

/-- The value of a decimal or hexadecimal digit. -/
def digitValue (c : Char) : Option Nat :=
  if 48 ≤ c.toNat ∧ c.toNat ≤ 57 then some (c.toNat - 48)
  else if 97 ≤ c.toNat ∧ c.toNat ≤ 102 then some (c.toNat - 87)
  else if 65 ≤ c.toNat ∧ c.toNat ≤ 70 then some (c.toNat - 55)
  else none

/-- A string of digits in a base, after a value read so far. -/
def digitsValue (base : Nat) : List Char → Nat → Option Nat
  | [], v => some v
  | c :: cs, v => (digitValue c).bind fun d => if d < base then digitsValue base cs (base * v + d) else none

/-- "one decimal or 0x-prefixed hexadecimal argument" (30_encoding.md R76). -/
def numberValue : List Char → Option Nat
  | [] => none
  | '0' :: 'x' :: c :: cs => digitsValue 16 (c :: cs) 0
  | cs => digitsValue 10 cs 0

/-- "in lower or upper case" (30_encoding.md R76): all of the name in one of the two (assumption 23). -/
def spells (name token : List Char) : Bool := token == name || token == name.map Char.toUpper

/-- A name of a table that a token spells. -/
def lookupName {α : Type} : List (List Char × α) → List Char → Option α
  | [], _ => none
  | (name, x) :: rest, token => if spells name token then some x else lookupName rest token

/-- The commands with one argument (30_encoding.md R71). -/
def argNames : List (List Char × (BitVec 32 → Instr)) :=
  [(['f'], .f), (['l', 'e'], .le), (['s', 'u'], .su), (['n', 's'], .ns)]

/-- The commands with no argument that the document writes as calls (30_encoding.md R76). -/
def callNames : List (List Char × Instr) :=
  [(['f', '1'], .f1), (['u', 'v', 'l', 'c'], .uvlc), (['l', 'e', 'b', '1', '2', '8'], .leb128)]

/-- All commands with no argument (30_encoding.md R71). -/
def plainNames : List (List Char × Instr) :=
  callNames ++ [(['o', 'b', 'u', '_', 'h', 'd', 'r'], .obuHdr), (['b', 'i', 'n', 'd'], .bind)]

/-- A command with an argument, which is a 32-bit unsigned number (30_encoding.md R72). -/
def withArgument (token arg : List Char) : Option Instr :=
  (lookupName argNames token).bind fun mk =>
    (numberValue arg).bind fun n => if n < 2 ^ 32 then some (mk (BitVec.ofNat 32 n)) else none

/-- The characters of a mnemonic. -/
def nameChar (c : Char) : Bool := c.isAlphanum || c == '_'

/-- One command in the notation of 30_encoding.md R76: `f1`, `f 5`, `f1()` or `f(5)`. -/
def assembleCommand (line : List Char) : Option Instr :=
  let token := line.takeWhile nameChar
  match line.dropWhile nameChar with
  | [] => lookupName plainNames token
  | ' ' :: arg => withArgument token arg
  | '(' :: rest =>
    match rest.reverse with
    | [')'] => lookupName callNames token
    | ')' :: gra => withArgument token gra.reverse
    | _ => none
  | _ => none

/-- The names of the host registers with their numbers, in upper case as 10_state.md R32 writes them; since they hold no
lower-case letter, `spells` takes no other case of them (DESIGN CHOICE, assumption 23). -/
def regNames : List (List Char × Nat) :=
  [(['C', 'T', 'R', 'L'], 0), (['S', 'T', 'A', 'T', 'U', 'S'], 1), (['C', 'M', 'D'], 2),
   (['R', 'E', 'S', 'U', 'L', 'T'], 3), (['S', 'R', 'C', '_', 'B', 'A', 'S', 'E'], 4),
   (['S', 'R', 'C', '_', 'L', 'E', 'N'], 5), (['P', 'O', 'S'], 6), (['A', 'C', 'C'], 7),
   (['C', 'U', 'R', 'S', 'O', 'R'], 8), (['O', 'B', 'U', '_', 'I', 'N', 'F', 'O'], 9),
   (['O', 'B', 'U', '_', 'S', 'I', 'Z', 'E'], 10),
   (['P', 'A', 'Y', 'L', 'O', 'A', 'D', '_', 'O', 'F', 'F'], 11),
   (['P', 'A', 'Y', 'L', 'O', 'A', 'D', '_', 'L', 'E', 'N'], 12)]

/-- One host register access: `write REG, value` or `read REG` (30_encoding.md R76). DESIGN CHOICE (assumption 23):
`write` and `read` in lower case, the register's name in upper case only, as 10_state.md R32 writes it. -/
def assembleAccess (line : List Char) : Option HostOp :=
  match line with
  | 'w' :: 'r' :: 'i' :: 't' :: 'e' :: ' ' :: rest =>
    (lookupName regNames (rest.takeWhile nameChar)).bind fun r =>
      match rest.dropWhile nameChar with
      | ',' :: ' ' :: value =>
        (numberValue value).bind fun v => if v < 2 ^ 64 then some (.regWrite (8 * r) (BitVec.ofNat 64 v)) else none
      | _ => none
  | 'r' :: 'e' :: 'a' :: 'd' :: ' ' :: rest => (lookupName regNames rest).map fun r => .regRead (8 * r)
  | _ => none

/-- One line of a host program: a command is a write of its word to CMD (10_state.md R35). -/
def assembleLine (line : List Char) : Option HostOp :=
  match assembleCommand line with
  | some i => some (.regWrite 0x10 (encode i))
  | none => assembleAccess line

end Sys2Proof.Machine
end

