-- ==== Sys2Proof/Safety.lean ====
section
/-! DEFINITION. The terms that claims about the block use: its invariant, the unread bit sequence and the values of bit strings, what the source answers, and what a command leaves alone. -/

namespace Sys2Proof.Machine

/-! ### Bit strings (00_scope.md R10) -/

/-- `val(s)`: the number whose binary digits, most significant first, are `s`. -/
def bitsVal (u : List Bool) : Nat := u.foldl (fun v b => 2 * v + b.toNat) 0

/-- `bits(b)`: the bits of a byte, most significant first (10_state.md R28). -/
def byteBits (b : Byte) : List Bool := (List.range 8).map b.getMsbD

/-- The `i`-th byte of a bit string, counted from 0. -/
def streamByte (u : List Bool) (i : Nat) : Nat := bitsVal ((u.drop (8 * i)).take 8)

/-- The bits of `n` bytes of memory from address `a`. -/
def windowBits (m : Memory) : (a n : Nat) → List Bool
  | _, 0 => []
  | a, n + 1 => byteBits (memRead m a) ++ windowBits m (a + 1) n

/-! ### The cursor's logical state (10_state.md R28) -/

/-- The valid bits of ACC, `bits(ACC[31 : 32-VALID])`. -/
def Cursor.bits (c : Cursor) : List Bool := (List.range c.valid.toNat).map c.acc.getMsbD

/-- The number of window bytes not yet fetched. -/
def State.unfetched (s : State) : Nat := s.sessLen.toNat - s.cur.foff.toNat

/-- U, the unread bit sequence (10_state.md R28). -/
def State.unread (s : State) : List Bool :=
  s.cur.bits ++ windowBits s.mem (s.sessBase.toNat + s.cur.foff.toNat) s.unfetched

/-! ### The invariant -/

/-- The cursor invariants (10_state.md R21, R23 and R26) for a window of `len` bytes. -/
abbrev Cursor.Ok (c : Cursor) (len : BitVec 32) : Prop :=
  c.valid.toNat ≤ 32 ∧ c.valid.toNat ≤ 8 * c.foff.toNat ∧ c.foff.toNat ≤ len.toNat ∧
    (c.exh = true → c.foff = len) ∧ c.acc.toNat % 2 ^ (32 - c.valid.toNat) = 0

/-- The invariant of the block: the cursor invariants, the window inside the source space (R24), the refill machine
IDLE (R47), the source memory in canonical form, written addresses inside the window, OBU_SIZE of at most 56 bits (R43)
and HDR_LEN of at most 10 (R42). -/
abbrev State.Inv (s : State) : Prop :=
  s.cur.Ok s.sessLen ∧ s.sessBase.toNat + s.sessLen.toNat ≤ 2 ^ 32 ∧ s.fsm = .idle ∧ Memory.wf s.mem = true ∧
    (∀ a ∈ s.tainted, s.sessBase.toNat ≤ a ∧ a < s.sessBase.toNat + s.sessLen.toNat) ∧
    s.obu.size.toNat < 2 ^ 56 ∧ s.obu.info.hdrLen.toNat ≤ 10

/-! ### The source -/

/-- The next `k` source reads of this session, or as many as the window has bytes left, all answer the byte. -/
abbrev State.SourceAnswers (s : State) (k : Nat) : Prop :=
  ∀ i, i < min k s.unfetched → s.answerAt i = .data

/-- The host has written no byte of the window that is still to be fetched (its duty, 20_memory.md R62). -/
abbrev State.Undisturbed (s : State) : Prop :=
  ∀ a ∈ s.tainted, a < s.sessBase.toNat + s.cur.foff.toNat

/-- A state in which a command runs as the spec describes reads of the stream: the invariant, an undisturbed window,
and a source that answers the next `k` reads. -/
abbrev State.Ready (s : State) (k : Nat) : Prop := s.Inv ∧ s.Undisturbed ∧ s.SourceAnswers k

/-- The first read from now that does not answer the byte is the `j`-th, and it answers `a`. -/
abbrev State.FirstOddAnswer (s : State) (j : Nat) (a : SrcAnswer) : Prop :=
  s.answerAt j = a ∧ a ≠ .data ∧ ∀ i, i < j → s.answerAt i = .data

/-- The same state with a source that answers the byte to every read of this session. -/
def State.allAnswered (s : State) : State := { s with srcScript := List.replicate s.unfetched .data }

/-- The number of draws between two states; while the block executes a command, the number of its source reads
(20_memory.md R51). -/
def State.readsTo (s t : State) : Nat := t.draws - s.draws

/-- The state after a command that started in `s` and failed with `e` at its `r`-th source read: only the error, the end
of the command, the hidden checkpoint and the used-up answers differ (40_command_cycle.md R94). -/
def State.failedAt (s : State) (e : ErrCode) (r : Nat) : State :=
  { s with err := e, resValid := false, busy := false, ckpt := s.cur, fsm := .idle,
           srcScript := s.srcScript.drop r, draws := s.draws + r }

/-- A source read that answers `Err` makes the command `i` fail with SourceError, whether or not its byte was needed: the
reads are those of the same command with every read answered (60_exceptions.md R162). Nothing is said of the hidden
checkpoint and refill state after it (10_state.md R29). -/
abbrev SourceErrFails (i : Instr) (s : State) : Prop :=
  ∀ (j : Nat) (t : State), exec i s.allAnswered = .next t → j < s.readsTo t → s.FirstOddAnswer j .err →
    ∃ u, exec i s = .next u ∧ u = { s.failedAt .sourceError (j + 1) with ckpt := u.ckpt, fsm := u.fsm }

/-- A word of opcode `op` that is no legal command of it, in the state's latch: a nonzero RSV, or an ARG that `bad` says
is out of its row's range; it fails with IllegalCommand and changes nothing else (30_encoding.md R73). -/
abbrev BadWordsFail (op : BitVec 8) (bad : Nat → Prop) (s : State) : Prop :=
  opField (fetch s) = op → (rsvField (fetch s) ≠ 0 ∨ bad (argField (fetch s)).toNat) →
    runLatched s = .next { s with err := .illegalCommand, resValid := false, busy := false }

/-- The refills between two states are the fewest that reach the new position, 4 bytes each: FOFF is where they end, and
EXH is set exactly when one of them met the end of the window (20_memory.md R54 and R55). -/
abbrev State.LazilyRefilled (s t : State) : Prop :=
  let q := (t.pos - 8 * s.cur.foff.toNat + 31) / 32
  t.cur.foff.toNat = min s.sessLen.toNat (s.cur.foff.toNat + 4 * q) ∧
    t.cur.exh = (s.cur.exh || decide (s.sessLen.toNat < s.cur.foff.toNat + 4 * q))

/-! ### leb128 on a bit string (41_cursor_reads.md R104) -/

/-- A leb128 of exactly `n` bytes stands at byte `o` of `u`: 1 to 8 bytes, a continuation bit in all but the last, and
none in the last unless it is the eighth. -/
abbrev LebAt (u : List Bool) (o n : Nat) : Prop :=
  1 ≤ n ∧ n ≤ 8 ∧ 8 * (o + n) ≤ u.length ∧ (∀ i, i < n - 1 → 128 ≤ streamByte u (o + i)) ∧
    (streamByte u (o + n - 1) < 128 ∨ n = 8)

/-- The value of the `n` bytes of a leb128 at byte `o`: 7 bits each, the first least significant. -/
def lebValue (u : List Bool) (o n : Nat) : Nat :=
  ((List.range n).map fun i => (streamByte u (o + i) % 128) * 2 ^ (7 * i)).sum

/-! ### What commands leave alone -/

/-- What no read command changes: the session, CTRL and the sampled policy, the latched word, the sticky bits, the SRC
registers, the host's side, the source memory and which of its bytes were written. -/
abbrev State.SameSetup (s t : State) : Prop :=
  t.sessBase = s.sessBase ∧ t.sessLen = s.sessLen ∧ t.strict = s.strict ∧ t.strictS = s.strictS ∧
    t.cmdWord = s.cmdWord ∧ t.overrun = s.overrun ∧ t.srcBase = s.srcBase ∧ t.srcLen = s.srcLen ∧
    t.inbox = s.inbox ∧ t.rdata = s.rdata ∧ t.tainted = s.tainted ∧ ∀ a, memRead t.mem a = memRead s.mem a

/-- The OBU registers and RSVD_WARN are unchanged. -/
abbrev State.SameObu (s t : State) : Prop := t.obu = s.obu ∧ t.rsvdWarn = s.rsvdWarn

/-- The command has succeeded with the value `v` (40_command_cycle.md R93). -/
abbrev State.Succeeded (t : State) (v : Word) : Prop :=
  t.result = v ∧ t.err = .none ∧ t.resValid = true ∧ t.busy = false

/-- The command that started in `s` has failed with the error `e` (40_command_cycle.md R94). -/
abbrev State.Failed (s t : State) (e : ErrCode) : Prop :=
  t.err = e ∧ t.resValid = false ∧ t.busy = false ∧ t.cur = s.cur ∧ t.result = s.result

end Sys2Proof.Machine
end

