-- ==== Sys2Proof/Certificates/Slice0/Obligations.lean ====
section
/-! DEFINITION. The statements for the provers. -/

open Sys2Proof Sys2Proof.Machine

/-! ### Encoding -/

/-- One word per command, written out from the layout of 30_encoding.md R70 and the opcode map of R71, decodes to the
command it stands for. -/
def Obligations.SpecWordsDecode : Prop :=
  decode 0x0000000800000001 = .ok (.f 8) ∧ decode 0x0000000000000002 = .ok .f1 ∧
    decode 0x0000000000000003 = .ok .uvlc ∧ decode 0x0000000200000004 = .ok (.le 2) ∧
    decode 0x0000000000000005 = .ok .leb128 ∧ decode 0x0000000400000006 = .ok (.su 4) ∧
    decode 0xFFFFFFFF00000007 = .ok (.ns 4294967295) ∧ decode 0x0000000000000008 = .ok .obuHdr ∧
    decode 0x0000000000000009 = .ok .bind

/-- The decoder and the encoder are inverse: a word decodes to a command exactly when it is the command's encoding, for
every word, every command and every value of ARG (30_encoding.md R70 and R75). -/
def Obligations.DecodeInvertsEncode : Prop :=
  ∀ (w : Word) (i : Instr), decode w = .ok i ↔ encode i = w

/-- "The assembled word is ARG·2^32 + OP", and every example line of 30_encoding.md R76 assembles to its word: the nine
commands, the seven calls, and `f 8`; so do an upper-case mnemonic and a hexadecimal argument, and a host access line
gives the register access. That the call notation is taken in upper case too (`F(8)`), and the spelling of register names
in the access lines, are the model's choice (assumption 23). -/
def Obligations.AssembledWordIsArgAndOp : Prop :=
  (∀ i : Instr, (encode i).toNat = (argOf i).toNat * 2 ^ 32 + (opcodeOf i).toNat) ∧
    assembleLine ['f', ' ', '5'] = some (.regWrite 0x10 0x0000000500000001) ∧
    assembleLine ['f', '1'] = some (.regWrite 0x10 0x0000000000000002) ∧
    assembleLine ['u', 'v', 'l', 'c'] = some (.regWrite 0x10 0x0000000000000003) ∧
    assembleLine ['l', 'e', ' ', '2'] = some (.regWrite 0x10 0x0000000200000004) ∧
    assembleLine ['l', 'e', 'b', '1', '2', '8'] = some (.regWrite 0x10 0x0000000000000005) ∧
    assembleLine ['s', 'u', ' ', '4'] = some (.regWrite 0x10 0x0000000400000006) ∧
    assembleLine ['n', 's', ' ', '5'] = some (.regWrite 0x10 0x0000000500000007) ∧
    assembleLine ['o', 'b', 'u', '_', 'h', 'd', 'r'] = some (.regWrite 0x10 0x0000000000000008) ∧
    assembleLine ['b', 'i', 'n', 'd'] = some (.regWrite 0x10 0x0000000000000009) ∧
    assembleLine ['f', ' ', '8'] = some (.regWrite 0x10 0x0000000800000001) ∧
    assembleLine ['f', '(', '5', ')'] = some (.regWrite 0x10 0x0000000500000001) ∧
    assembleLine ['f', '1', '(', ')'] = some (.regWrite 0x10 0x0000000000000002) ∧
    assembleLine ['u', 'v', 'l', 'c', '(', ')'] = some (.regWrite 0x10 0x0000000000000003) ∧
    assembleLine ['l', 'e', '(', '2', ')'] = some (.regWrite 0x10 0x0000000200000004) ∧
    assembleLine ['l', 'e', 'b', '1', '2', '8', '(', ')'] = some (.regWrite 0x10 0x0000000000000005) ∧
    assembleLine ['s', 'u', '(', '4', ')'] = some (.regWrite 0x10 0x0000000400000006) ∧
    assembleLine ['n', 's', '(', '5', ')'] = some (.regWrite 0x10 0x0000000500000007) ∧
    assembleLine ['F', ' ', '5'] = some (.regWrite 0x10 0x0000000500000001) ∧
    assembleLine ['O', 'B', 'U', '_', 'H', 'D', 'R'] = some (.regWrite 0x10 0x0000000000000008) ∧
    assembleLine ['n', 's', ' ', '0', 'x', '5'] = some (.regWrite 0x10 0x0000000500000007) ∧
    assembleLine ['F', '(', '8', ')'] = some (.regWrite 0x10 0x0000000800000001) ∧
    assembleLine ['w', 'r', 'i', 't', 'e', ' ', 'S', 'R', 'C', '_', 'L', 'E', 'N', ',', ' ', '7'] =
      some (.regWrite 0x28 7) ∧
    assembleLine ['r', 'e', 'a', 'd', ' ', 'P', 'O', 'S'] = some (.regRead 0x30)

/-- A command word is legal exactly when OP is 0x01 to 0x09, RSV is 0 and ARG is in its row's range, and for BIND the
window does not pass 2^32; an illegal one fails with IllegalCommand and changes nothing but STATUS, and a legal one never
reports IllegalCommand (30_encoding.md R73, R74; 40_command_cycle.md R91; 60_exceptions.md R165). -/
def Obligations.IllegalWordsFailAndChangeNothing : Prop :=
  ∀ (s : State),
    let w := (fetch s).toNat
    let op := w % 2 ^ 8
    let rsv := w / 2 ^ 8 % 2 ^ 24
    let arg := w / 2 ^ 32
    let legal : Prop := rsv = 0 ∧
      (((op = 0x01 ∨ op = 0x06) ∧ 1 ≤ arg ∧ arg ≤ 32) ∨ (op = 0x04 ∧ 1 ≤ arg ∧ arg ≤ 8) ∨ (op = 0x07 ∧ 1 ≤ arg) ∨
        ((op = 0x02 ∨ op = 0x03 ∨ op = 0x05 ∨ op = 0x08) ∧ arg = 0) ∨
        (op = 0x09 ∧ arg = 0 ∧ s.srcBase.toNat + s.srcLen.toNat ≤ 2 ^ 32))
    (¬ legal → runLatched s = .next { s with err := .illegalCommand, resValid := false, busy := false }) ∧
      (legal → ∀ t, runLatched s = .next t → t.err ≠ .illegalCommand)

/-! ### The step, the issue of a command and the host's accesses -/

/-- When the block moves next, the step executes the command that the latched word decodes to, and a word that decodes
to none fails with IllegalCommand; otherwise the step is the host's next action, or nothing when it has none. In
`withFetchWord` the block moves next and holds the word. -/
def Obligations.StepExecutesTheLatchedCommand : Prop :=
  (∀ (s : State) (i : Instr), blockTurn s = true → decode (fetch s) = .ok i → step s = exec i s) ∧
    (∀ (s : State) (e : DecodeError), blockTurn s = true → decode (fetch s) = .error e →
      step s = .next { s with err := .illegalCommand, resValid := false, busy := false }) ∧
    (∀ (s : State), (s.busy = true ∧ (s.inbox = [] ∨ ∃ rest, s.inbox = .awaitDone :: rest)) ↔ blockTurn s = true) ∧
    (∀ (s : State), blockTurn s = false → s.inbox = [] → step s = .next s) ∧
    (∀ (s : State) (op : HostOp) (rest : List HostOp), blockTurn s = false → s.inbox = op :: rest →
      step s = hostOp op { s with inbox := rest }) ∧
    (∀ (s : State) (w : Word), blockTurn (s.withFetchWord 64 w.toNat) = true ∧ fetch (s.withFetchWord 64 w.toNat) = w)

/-- A host write of CMD with BUSY = 0 issues the command: BUSY <- 1, the word is latched, STRICT is sampled as STRICT_s,
which the command then keeps; with BUSY = 1 it issues nothing, so commands execute one at a time in issue order
(40_command_cycle.md R90). -/
def Obligations.CmdWriteIssuesTheCommand : Prop :=
  (∀ (s : State) (w : Word) (rest : List HostOp), s.busy = false → s.inbox = .regWrite 0x10 w :: rest →
      step s = .next { s with inbox := rest, busy := true, cmdWord := w, strictS := s.strict }) ∧
    (∀ (s t : State) (w : Word) (rest : List HostOp), s.busy = true → s.inbox = .regWrite 0x10 w :: rest →
      step s = .next t → t.cmdWord = s.cmdWord ∧ t.strictS = s.strictS ∧ t.busy = true) ∧
    (∀ (i : Instr) (s t : State), exec i s = .next t → t.strictS = s.strictS ∧ t.cmdWord = s.cmdWord)

/-- While BUSY = 1 a host write to any register is ignored and sets OVERRUN, and a read of a register other than POS, ACC
and CURSOR, which are unspecified then, gives its previous value and changes nothing (40_command_cycle.md R96 and R95);
STATUS reads with BUSY, its bit 0, as 1 and its other fields at their bits (10_state.md R34).
Of STATUS.EXH, the mirror of a part of the cursor, the statement says nothing: what it reads as while BUSY = 1 is the
model's reading (assumption 11). -/
def Obligations.BusyWritesSetOverrunOnly : Prop :=
  ∀ (s : State) (off : Nat) (rest : List HostOp), s.busy = true → off % 8 = 0 → off < 0x80 →
    (∀ v : Word, s.inbox = .regWrite off v :: rest → step s = .next { s with inbox := rest, overrun := true }) ∧
      (s.inbox = .regRead off :: rest → ∃ t, step s = .next t ∧
        t = { s with inbox := rest, rdata := t.rdata, draws := t.draws } ∧
        (off = 0x00 → t.rdata = BitVec.ofNat 64 s.strict.toNat) ∧
        (off = 0x08 →
          let code : Nat := match s.err with
            | .none => 0 | .endOfStream => 1 | .sourceError => 2 | .malformedField => 3 | .misaligned => 4
            | .illegalCommand => 5
          ∃ exh : Bool, t.rdata = BitVec.ofNat 64 (1 + 2 * s.resValid.toNat + 16 * code + 256 * exh.toNat +
            512 * s.rsvdWarn.toNat + 1024 * s.overrun.toNat)) ∧
        (off = 0x10 → t.rdata = 0) ∧
        (off = 0x18 → t.rdata = s.result) ∧
        (off = 0x20 → t.rdata = s.srcBase.setWidth 64) ∧
        (off = 0x28 → t.rdata = s.srcLen.setWidth 64) ∧
        (off = 0x48 → t.rdata = s.obu.info.word) ∧
        (off = 0x50 → t.rdata = s.obu.size) ∧
        (off = 0x58 → t.rdata = s.obu.payloadOff.setWidth 64) ∧
        (off = 0x60 → t.rdata = s.obu.payloadLen) ∧
        (0x68 ≤ off → t.rdata = 0))

/-- What STATUS and CTRL read as with BUSY = 0: each field at the bits of its table, every other bit 0
(10_state.md R33 and R34, 60_exceptions.md R160). -/
def Obligations.StatusAndCtrlReadTheirFields : Prop :=
  ∀ (s : State) (rest : List HostOp), s.busy = false →
    (s.inbox = .regRead 0x00 :: rest →
      step s = .next { s with inbox := rest, rdata := BitVec.ofNat 64 s.strict.toNat }) ∧
    (s.inbox = .regRead 0x08 :: rest →
      let code : Nat := match s.err with
        | .none => 0 | .endOfStream => 1 | .sourceError => 2 | .malformedField => 3 | .misaligned => 4
        | .illegalCommand => 5
      let word : Nat := 2 * s.resValid.toNat + 16 * code + 256 * s.cur.exh.toNat + 512 * s.rsvdWarn.toNat +
        1024 * s.overrun.toNat
      step s = .next { s with inbox := rest, rdata := BitVec.ofNat 64 word })

/-- What RESULT, SRC_BASE, SRC_LEN, POS, ACC, CURSOR, CMD and the reserved registers read as with BUSY = 0
(10_state.md R35 to R41 and R46). -/
def Obligations.CursorRegistersReadTheCursor : Prop :=
  ∀ (s : State) (rest : List HostOp) (off value : Nat), s.busy = false → s.inbox = .regRead off :: rest →
    ((off = 0x10 ∧ value = 0) ∨ (off = 0x18 ∧ value = s.result.toNat) ∨ (off = 0x20 ∧ value = s.srcBase.toNat) ∨
      (off = 0x28 ∧ value = s.srcLen.toNat) ∨ (off = 0x30 ∧ value + s.cur.valid.toNat = 8 * s.cur.foff.toNat) ∨
      (off = 0x38 ∧ value = s.cur.acc.toNat) ∨
      (off = 0x40 ∧ value = s.cur.foff.toNat * 2 ^ 32 + s.cur.exh.toNat * 2 ^ 8 + s.cur.valid.toNat) ∨
      ((off = 0x68 ∨ off = 0x70 ∨ off = 0x78) ∧ value = 0)) →
    step s = .next { s with inbox := rest, rdata := BitVec.ofNat 64 value }

/-- What the four OBU registers read as with BUSY = 0 (10_state.md R42 to R45; some of R42's field widths are marked [from
general knowledge] there, assumption 21). -/
def Obligations.ObuRegistersReadTheirFields : Prop :=
  ∀ (s : State) (rest : List HostOp) (off value : Nat), s.busy = false → s.inbox = .regRead off :: rest →
    ((off = 0x48 ∧ value = s.obu.info.tag.toNat + s.obu.info.typeReserved.toNat * 2 ^ 4
        + s.obu.info.extFlag.toNat * 2 ^ 5 + s.obu.info.hasSize.toNat * 2 ^ 6 + s.obu.info.temporalId.toNat * 2 ^ 7
        + s.obu.info.spatialId.toNat * 2 ^ 10 + s.obu.info.forbidden.toNat * 2 ^ 12 + s.obu.info.rsvd1.toNat * 2 ^ 13
        + s.obu.info.extRsvd3.toNat * 2 ^ 14 + s.obu.info.hdrLen.toNat * 2 ^ 17) ∨
      (off = 0x50 ∧ value = s.obu.size.toNat) ∨ (off = 0x58 ∧ value = s.obu.payloadOff.toNat) ∨
      (off = 0x60 ∧ value = s.obu.payloadLen.toNat)) →
    step s = .next { s with inbox := rest, rdata := BitVec.ofNat 64 value }

/-- What a host write with BUSY = 0 does to every register: CTRL, SRC_BASE and SRC_LEN take the bits they hold, STATUS
clears the sticky bits written as 1, CMD issues the command, and read-only and reserved registers ignore it (10_state.md
R32 to R35, R37, R38 and R46, 40_command_cycle.md R90). -/
def Obligations.HostWritesSetTheirRegister : Prop :=
  ∀ (s : State) (off : Nat) (v : Word) (rest : List HostOp), s.busy = false → s.inbox = .regWrite off v :: rest →
    (off = 0x00 → step s = .next { s with inbox := rest, strict := decide (v.toNat % 2 = 1) }) ∧
    (off = 0x08 → step s = .next { s with
        inbox := rest,
        rsvdWarn := s.rsvdWarn && decide (v.toNat / 2 ^ 9 % 2 = 0),
        overrun := s.overrun && decide (v.toNat / 2 ^ 10 % 2 = 0) }) ∧
    (off = 0x10 → step s = .next { s with inbox := rest, busy := true, cmdWord := v, strictS := s.strict }) ∧
    (off = 0x20 → step s = .next { s with inbox := rest, srcBase := BitVec.ofNat 32 (v.toNat % 2 ^ 32) }) ∧
    (off = 0x28 → step s = .next { s with inbox := rest, srcLen := BitVec.ofNat 32 (v.toNat % 2 ^ 32) }) ∧
    (off = 0x18 ∨ (0x30 ≤ off ∧ off < 0x80 ∧ off % 8 = 0) → step s = .next { s with inbox := rest })

/-- The reserved registers 13 to 15 read 0 and ignore writes; a host access at an offset that is not a multiple of 8 or is
at or above 0x80 is refused, and an access at any other offset is not (10_state.md R46). An access of other than a whole
register is refused too, which is R32 and decision D37 as the model reads them (assumption 14). -/
def Obligations.UndefinedOffsetsAreRefused : Prop :=
  ∀ (s : State) (off width : Nat) (v : Word) (rest : List HostOp),
    ((off % 8 ≠ 0 ∨ 0x80 ≤ off) →
      (s.inbox = .regWrite off v :: rest → step s = .refused (.undefinedOffset off)) ∧
      (s.inbox = .regRead off :: rest → step s = .refused (.undefinedOffset off))) ∧
    ((off = 0x68 ∨ off = 0x70 ∨ off = 0x78) →
      (s.busy = false → s.inbox = .regWrite off v :: rest → step s = .next { s with inbox := rest }) ∧
      (s.inbox = .regRead off :: rest → step s = .next { s with inbox := rest, rdata := 0 })) ∧
    (s.inbox = .partialAccess off width :: rest → step s = .refused (.partialAccess off width)) ∧
    (off % 8 = 0 → off < 0x80 → (s.inbox = .regWrite off v :: rest ∨ s.inbox = .regRead off :: rest) →
      ∃ t, step s = .next t)

/-- The host's write of a source byte: that byte and no other changes, the cursor and its prefetched bits do not, and
the byte counts as written in the session exactly when it lies in the bound window (20_memory.md R62 and R64). That the
write takes effect at once and at any time, also while BUSY = 1, is the model's choice (assumption 22), and the set of
written bytes is its reading of R62 (assumption 5). -/
def Obligations.SourceWriteChangesOneByte : Prop :=
  ∀ (s : State) (a : Addr) (b : Byte) (rest : List HostOp), Memory.wf s.mem = true → s.inbox = .srcWrite a b :: rest →
    ∃ t, step s = .next t ∧ t = { s with inbox := rest, mem := t.mem, tainted := t.tainted } ∧
      (∀ x, memRead t.mem x = if x = a.toNat then b else memRead s.mem x) ∧
      (∀ x, x ∈ t.tainted ↔ x ∈ s.tainted ∨
        (x = a.toNat ∧ s.sessBase.toNat ≤ x ∧ x < s.sessBase.toNat + s.sessLen.toNat))

/-- A source read of a byte the host wrote in this session answers a value of its own, whatever the memory holds; of any
other byte it answers the memory's byte; it uses up one answer and changes nothing else (20_memory.md R51 and R62).
The value is the model's free value `Config.racyByte` (assumption 5). -/
def Obligations.SourceReadAnswersMemoryOrAnyValue : Prop :=
  ∀ (s : State),
    let a := (s.sessBase.toNat + s.cur.foff.toNat) % 2 ^ 32
    let t : State := { s with srcScript := s.srcScript.tail, draws := s.draws + 1 }
    (s.answerAt 0 = .data → a ∉ s.tainted → srcRead s = .ok (memRead s.mem a) t) ∧
      (s.answerAt 0 = .data → a ∈ s.tainted → ∃ b, srcRead s = .ok b t ∧ ∀ m, srcRead { s with mem := m } = .ok b { t with mem := m }) ∧
      (s.answerAt 0 = .err → srcRead s = .raise .sourceError t)

/-! ### Reset -/

/-- The state after reset, every element that R47 gives a value (10_state.md R47; CKPT is unspecified there and not
mentioned here). -/
def Obligations.ResetValues : Prop :=
  State.reset.cur.acc = 0 ∧ State.reset.cur.valid = 0 ∧ State.reset.cur.exh = false ∧ State.reset.cur.foff = 0 ∧
    State.reset.sessBase = 0 ∧ State.reset.sessLen = 0 ∧ ctrlWord State.reset = 1 ∧ statusWord State.reset = 0 ∧
    State.reset.result = 0 ∧ State.reset.srcBase = 0 ∧ State.reset.srcLen = 0 ∧ State.reset.obu.info.word = 0 ∧
    State.reset.obu.size = 0 ∧ State.reset.obu.payloadOff = 0 ∧ State.reset.obu.payloadLen = 0 ∧
    State.reset.fsm = .idle

/-- Asserting the reset input, also during a command, puts every element of the block to its reset value; the source
memory, the source's answers and the host's side stay, which is the model's reading (assumption 19)
(70_reset_and_hazards.md R180). -/
def Obligations.ResetInputRestoresTheBlock : Prop :=
  ∀ (s : State) (rest : List HostOp), s.inbox = .reset :: rest →
    ∃ t, step s = .next t ∧ t = { State.reset with
      mem := s.mem, srcScript := s.srcScript, draws := s.draws, rdata := s.rdata, inbox := rest, ckpt := t.ckpt }

/-- With the block as reset leaves it, every command that needs a bit fails with EndOfStream, and `ns 1` returns 0
(70_reset_and_hazards.md R181, marked [derived] there; 43_session.md R150). -/
def Obligations.ReadsFailBeforeTheFirstBind : Prop :=
  ∀ (i : Instr) (s : State), i.wellFormed = true → i ≠ .bind → s.cur = Cursor.empty → s.sessLen = 0 →
    (i ≠ .ns 1 → ∃ t, exec i s = .next t ∧ s.Failed t .endOfStream) ∧
      (i = .ns 1 → ∃ t, exec i s = .next t ∧ t.Succeeded 0 ∧ t.cur = s.cur)

/-- The state after reset meets the invariant. -/
def Obligations.ResetMeetsInvariant : Prop := State.reset.Inv

/-! ### Refill and take -/

/-- A refill whose reads are answered loads the next min(4, remaining) bytes at the top of ACC, the first byte highest,
leaves the low bits 0, advances FOFF and sets EXH exactly when it met the end of the window; at the first `Err` it raises
SourceError; and no refill is started when EXH = 1 (20_memory.md R54). -/
def Obligations.RefillLoadsUpToFourBytes : Prop :=
  ∀ (s : State), s.cur.foff.toNat ≤ s.sessLen.toNat → s.sessBase.toNat + s.sessLen.toNat ≤ 2 ^ 32 → s.Undisturbed →
    let j := min 4 s.unfetched
    (s.SourceAnswers 4 → ∃ t, refill s = .ok () t ∧
      t.cur.valid.toNat = 8 * j ∧ t.cur.foff.toNat = s.cur.foff.toNat + j ∧
      t.cur.exh = (s.cur.exh || decide (s.unfetched < 4)) ∧ t.fsm = .idle ∧
      t.cur.bits = windowBits s.mem (s.sessBase.toNat + s.cur.foff.toNat) j ∧
      t.cur.acc.toNat % 2 ^ (32 - 8 * j) = 0 ∧
      t = { s with cur := t.cur, fsm := t.fsm, srcScript := s.srcScript.drop j, draws := s.draws + j }) ∧
    (∀ k, k < j → s.FirstOddAnswer k .err → ∃ t, refill s = .raise .sourceError t ∧ t.draws = s.draws + k + 1) ∧
    (s.cur.exh = true → ∀ n : Nat, n ≤ s.cur.valid.toNat ∨ take n s = .raise .endOfStream s)

/-- `take(n)` on the unread sequence: with the source answering, it succeeds exactly when U has at least `n` bits, returns
the value of the first `n` and leaves the rest, and raises EndOfStream exactly when U is shorter; it raises SourceError
only when it starts a refill (20_memory.md R56, marked [derived] there). -/
def Obligations.TakeReturnsTheNextUnreadBits : Prop :=
  ∀ (n : Nat) (s : State), n ≤ 32 → s.Inv → s.Undisturbed →
    (s.SourceAnswers 4 → n ≤ s.unread.length →
      ∃ t, take n s = .ok (bitsVal (s.unread.take n)) t ∧ t.unread = s.unread.drop n ∧ t.Inv ∧ t.Undisturbed) ∧
    (s.SourceAnswers 4 → s.unread.length < n → ∃ t, take n s = .raise .endOfStream t) ∧
    (∀ t, take n s = .raise .sourceError t → s.cur.valid.toNat < n ∧ s.cur.exh = false ∧ s.cur.foff.toNat < s.sessLen.toNat)

/-! ### The read commands -/

/-- F returns the next `n` bits as an unsigned integer, most significant first, and fails with EndOfStream if fewer
remain; EXH is set when its refill met the end of the window, and `n` = VALID needs no refill (41_cursor_reads.md
R100). -/
def Obligations.FReadsTheNextBits : Prop :=
  ∀ (s : State), s.Inv →
    (∀ n : BitVec 32, 1 ≤ n.toNat → n.toNat ≤ 32 → s.Ready 4 →
      (n.toNat ≤ s.unread.length → ∃ t, exec (.f n) s = .next t ∧
        t.Succeeded (BitVec.ofNat 64 (bitsVal (s.unread.take n.toNat))) ∧
        t.unread = s.unread.drop n.toNat ∧ t.pos = s.pos + n.toNat ∧
        t.cur.exh = (s.cur.exh || (decide (s.cur.valid.toNat < n.toNat) && decide (s.unfetched < 4))) ∧
        (n.toNat ≤ s.cur.valid.toNat → t.draws = s.draws ∧ t.cur.foff = s.cur.foff)) ∧
      (s.unread.length < n.toNat → ∃ t, exec (.f n) s = .next t ∧ s.Failed t .endOfStream)) ∧
    (∀ n : BitVec 32, decode (n ++ (0x00000001 : BitVec 32)) = .ok (.f n)) ∧
    (∀ n : BitVec 32, SourceErrFails (.f n) s) ∧
    BadWordsFail 0x01 (fun n => n = 0 ∨ 32 < n) s

/-- F1 returns the next bit as 0 or 1, with the effect of `f 1` on the cursor (41_cursor_reads.md R101). -/
def Obligations.F1ReadsOneBit : Prop :=
  ∀ (s : State), s.Inv →
    (s.Ready 4 →
      (∀ (b : Bool) (rest : List Bool), s.unread = b :: rest → ∃ t u, exec .f1 s = .next t ∧
        t.Succeeded (if b then 1 else 0) ∧ t.unread = rest ∧ t.pos = s.pos + 1 ∧
        exec (.f 1) s = .next u ∧ t.cur = u.cur) ∧
      (s.unread = [] → ∃ t, exec .f1 s = .next t ∧ s.Failed t .endOfStream)) ∧
    decode 0x0000000000000002 = .ok .f1 ∧
    SourceErrFails .f1 s ∧
    BadWordsFail 0x02 (fun n => n ≠ 0) s

/-- UVLC on a run of `k` zeros ended by a one: suffix + 2^k − 1 for k ≤ 31, and 2^32 − 1 with no suffix read for
k ≥ 32; EndOfStream when the window ends inside the run or the suffix (41_cursor_reads.md R102, 90_conflicts.md C1). -/
def Obligations.UvlcDecodesRunAndSuffix : Prop :=
  ∀ (s : State), s.Inv →
    (s.Ready s.unfetched → ∀ (k : Nat) (rest : List Bool),
      (s.unread = List.replicate k false ++ true :: rest → k ≤ 31 → k ≤ rest.length → ∃ t, exec .uvlc s = .next t ∧
        t.Succeeded (BitVec.ofNat 64 (bitsVal (rest.take k) + 2 ^ k - 1)) ∧ t.unread = rest.drop k ∧
        t.pos = s.pos + 2 * k + 1 ∧ s.LazilyRefilled t) ∧
      (s.unread = List.replicate k false ++ true :: rest → 32 ≤ k → ∃ t, exec .uvlc s = .next t ∧
        t.Succeeded (BitVec.ofNat 64 (2 ^ 32 - 1)) ∧ t.unread = rest ∧ t.pos = s.pos + k + 1 ∧
        s.LazilyRefilled t) ∧
      (s.unread = List.replicate k false ++ true :: rest → k ≤ 31 → rest.length < k →
        ∃ t, exec .uvlc s = .next t ∧ s.Failed t .endOfStream) ∧
      (s.unread = List.replicate k false → ∃ t, exec .uvlc s = .next t ∧ s.Failed t .endOfStream)) ∧
    decode 0x0000000000000003 = .ok .uvlc ∧
    SourceErrFails .uvlc s ∧
    BadWordsFail 0x03 (fun n => n ≠ 0) s

/-- LE reads `n` bytes, the first least significant, on a byte boundary; Misaligned off it, before any read; EndOfStream
when fewer than `n` bytes remain (41_cursor_reads.md R103). -/
def Obligations.LeReadsLittleEndianBytes : Prop :=
  ∀ (s : State), s.Inv →
    (∀ n : BitVec 32, 1 ≤ n.toNat → n.toNat ≤ 8 →
      (s.pos % 8 = 0 → s.Ready (n.toNat + 4) → 8 * n.toNat ≤ s.unread.length → ∃ t, exec (.le n) s = .next t ∧
        t.Succeeded (BitVec.ofNat 64 ((List.range n.toNat).map fun i => streamByte s.unread i * 2 ^ (8 * i)).sum) ∧
        t.unread = s.unread.drop (8 * n.toNat) ∧ t.pos = s.pos + 8 * n.toNat ∧ s.LazilyRefilled t) ∧
      (s.pos % 8 = 0 → s.Ready (n.toNat + 4) → s.unread.length < 8 * n.toNat →
        ∃ t, exec (.le n) s = .next t ∧ s.Failed t .endOfStream) ∧
      (s.pos % 8 ≠ 0 → ∃ t, exec (.le n) s = .next t ∧ s.Failed t .misaligned ∧ t.draws = s.draws)) ∧
    (∀ n : BitVec 32, decode (n ++ (0x00000004 : BitVec 32)) = .ok (.le n)) ∧
    (∀ n : BitVec 32, SourceErrFails (.le n) s) ∧
    BadWordsFail 0x04 (fun n => n = 0 ∨ 8 < n) s

/-- LEB128 reads 1 to 8 bytes of 7 bits, the first least significant, up to the first without the continuation bit or the
eighth; EndOfStream when the window ends before that; Misaligned off a byte boundary (41_cursor_reads.md R104). -/
def Obligations.Leb128ReadsSevenBitGroups : Prop :=
  ∀ (s : State), s.Inv →
    (s.pos % 8 = 0 → s.Ready 12 →
      (∀ n, LebAt s.unread 0 n → ∃ t, exec .leb128 s = .next t ∧
        t.Succeeded (BitVec.ofNat 64 (lebValue s.unread 0 n)) ∧ t.unread = s.unread.drop (8 * n) ∧
        t.pos = s.pos + 8 * n ∧ s.LazilyRefilled t) ∧
      ((∀ n, ¬ LebAt s.unread 0 n) → ∃ t, exec .leb128 s = .next t ∧ s.Failed t .endOfStream)) ∧
    (s.pos % 8 ≠ 0 → ∃ t, exec .leb128 s = .next t ∧ s.Failed t .misaligned ∧ t.draws = s.draws) ∧
    decode 0x0000000000000005 = .ok .leb128 ∧
    SourceErrFails .leb128 s ∧
    BadWordsFail 0x05 (fun n => n ≠ 0) s

/-- SU reads `n` bits as a two's-complement value, sign-extended to 64 bits, also for n = 32 (41_cursor_reads.md
R105). -/
def Obligations.SuReadsTwosComplement : Prop :=
  ∀ (s : State), s.Inv →
    (∀ n : BitVec 32, 1 ≤ n.toNat → n.toNat ≤ 32 → s.Ready 4 →
      (n.toNat ≤ s.unread.length →
        let m : Int := bitsVal (s.unread.take n.toNat)
        ∃ t, exec (.su n) s = .next t ∧
          t.Succeeded (BitVec.ofInt 64 (if 2 ^ (n.toNat - 1) ≤ m then m - 2 ^ n.toNat else m)) ∧
          t.unread = s.unread.drop n.toNat ∧ t.pos = s.pos + n.toNat ∧
          t.cur.exh = (s.cur.exh || (decide (s.cur.valid.toNat < n.toNat) && decide (s.unfetched < 4)))) ∧
      (s.unread.length < n.toNat → ∃ t, exec (.su n) s = .next t ∧ s.Failed t .endOfStream)) ∧
    (∀ n : BitVec 32, decode (n ++ (0x00000006 : BitVec 32)) = .ok (.su n)) ∧
    (∀ n : BitVec 32, SourceErrFails (.su n) s) ∧
    BadWordsFail 0x06 (fun n => n = 0 ∨ 32 < n) s

/-- NS for an alphabet of `n` symbols, with w = floor(log2 n) + 1 and m = 2^w − n: the w − 1 bit value v when v < m, else
2v − m + the next bit; EndOfStream when either read finds too few bits (41_cursor_reads.md R106). -/
def Obligations.NsReadsASymbol : Prop :=
  ∀ (s : State), s.Inv →
    (∀ (n : BitVec 32) (w : Nat), 1 ≤ n.toNat → 1 ≤ w → 2 ^ (w - 1) ≤ n.toNat → n.toNat < 2 ^ w → s.Ready 8 →
      let m := 2 ^ w - n.toNat
      let v := bitsVal (s.unread.take (w - 1))
      (w - 1 ≤ s.unread.length → v < m → ∃ t, exec (.ns n) s = .next t ∧ t.Succeeded (BitVec.ofNat 64 v) ∧
        t.unread = s.unread.drop (w - 1) ∧ t.pos = s.pos + (w - 1) ∧ s.LazilyRefilled t) ∧
      (∀ e : Bool, w ≤ s.unread.length → s.unread[w - 1]? = some e → m ≤ v → ∃ t, exec (.ns n) s = .next t ∧
        t.Succeeded (BitVec.ofNat 64 (2 * v - m + e.toNat)) ∧ t.unread = s.unread.drop w ∧ t.pos = s.pos + w ∧
        s.LazilyRefilled t) ∧
      ((s.unread.length < w - 1 ∨ (s.unread.length = w - 1 ∧ m ≤ v)) →
        ∃ t, exec (.ns n) s = .next t ∧ s.Failed t .endOfStream)) ∧
    (∀ n : BitVec 32, decode (n ++ (0x00000007 : BitVec 32)) = .ok (.ns n)) ∧
    (∀ n : BitVec 32, SourceErrFails (.ns n) s) ∧
    BadWordsFail 0x07 (fun n => n = 0) s

/-! ### OBU_HDR -/

/-- OBU_HDR on a complete header that its policy accepts and whose payload fits the window: the result registers, the
result, RSVD_WARN and the cursor at the first payload bit (42_obu_framer.md R130 to R135; the header's layout is
30_encoding.md R80 and R81, marked [from general knowledge] there, assumption 21). -/
def Obligations.ObuHdrFramesTheHeader : Prop :=
  ∀ (s : State) (n : Nat), s.Ready 14 → s.pos % 8 = 0 →
    let u := s.unread
    let h : Byte := BitVec.ofNat 8 (streamByte u 0)
    let ext := h.getLsbD 2
    let hasSize := h.getLsbD 1
    let x : Byte := if ext then BitVec.ofNat 8 (streamByte u 1) else 0
    let o := 1 + ext.toNat
    let tag := h.toNat / 8 % 16
    let dirty := h.getLsbD 7 || h.getLsbD 0 || decide (x.toNat % 8 ≠ 0)
    let size := if hasSize then lebValue u o n else 0
    let off := s.pos / 8 + o + n
    let len := if hasSize then size else s.sessLen.toNat - off
    8 * o ≤ u.length → (if hasSize then LebAt u o n else n = 0) → (s.strictS = true → dirty = false) →
    (hasSize = true → size ≤ s.sessLen.toNat - off) →
    ∃ t, exec .obuHdr s = .next t ∧ t.Succeeded (BitVec.ofNat 64 len) ∧
      t.obu.info = {
        tag := BitVec.ofNat 4 tag, typeReserved := decide (tag = 0 ∨ (9 ≤ tag ∧ tag ≤ 14)), extFlag := ext,
        hasSize := hasSize, temporalId := BitVec.ofNat 3 (x.toNat / 32), spatialId := BitVec.ofNat 2 (x.toNat / 8),
        forbidden := h.getLsbD 7, rsvd1 := h.getLsbD 0, extRsvd3 := BitVec.ofNat 3 x.toNat,
        hdrLen := BitVec.ofNat 4 (o + n) } ∧
      t.obu.size.toNat = size ∧ t.obu.payloadOff.toNat = off ∧ t.obu.payloadLen.toNat = len ∧
      t.rsvdWarn = (s.rsvdWarn || dirty) ∧ t.unread = u.drop (8 * (o + n)) ∧ t.pos = 8 * off ∧
      s.LazilyRefilled t

/-- The strict policy: a reserved-bit-not-zero condition of the header byte, or of the extension byte after a clean
header byte, fails with MalformedField at that byte, whatever follows it; the OBU registers and RSVD_WARN stay
(42_obu_framer.md R132, 60_exceptions.md R163 and R166). The bits' places are those of 30_encoding.md R80 and R81, marked
[from general knowledge] there (assumption 21). -/
def Obligations.StrictPolicyRejectsReservedBits : Prop :=
  ∀ (s : State), s.Ready 14 → s.pos % 8 = 0 → s.strictS = true →
    let u := s.unread
    let h : Byte := BitVec.ofNat 8 (streamByte u 0)
    (8 ≤ u.length → (h.getLsbD 7 = true ∨ h.getLsbD 0 = true) →
      ∃ t, exec .obuHdr s = .next t ∧ s.Failed t .malformedField ∧ s.SameObu t) ∧
    (16 ≤ u.length → h.getLsbD 7 = false → h.getLsbD 0 = false → h.getLsbD 2 = true → streamByte u 1 % 8 ≠ 0 →
      ∃ t, exec .obuHdr s = .next t ∧ s.Failed t .malformedField ∧ s.SameObu t)

/-- OBU_HDR fails with EndOfStream when the header byte, the extension byte or the size is cut off by the end of the
window, or when the explicit size exceeds the remainder of the window (42_obu_framer.md R133, 60_exceptions.md R161). The
header's layout is that of 30_encoding.md R80 and R81, marked [from general knowledge] there (assumption 21). -/
def Obligations.TruncatedOrOversizedObuFails : Prop :=
  ∀ (s : State), s.Ready 14 → s.pos % 8 = 0 →
    let u := s.unread
    let h : Byte := BitVec.ofNat 8 (streamByte u 0)
    let o := 1 + (h.getLsbD 2).toNat
    let clean : Prop := s.strictS = true → h.getLsbD 7 = false ∧ h.getLsbD 0 = false
    let cleanExt : Prop := s.strictS = true → h.getLsbD 2 = true → streamByte u 1 % 8 = 0
    let fails : Prop := ∃ t, exec .obuHdr s = .next t ∧ s.Failed t .endOfStream ∧ s.SameObu t
    (u.length < 8 → fails) ∧
    (8 ≤ u.length → clean → h.getLsbD 2 = true → u.length < 16 → fails) ∧
    (8 * o ≤ u.length → clean → cleanExt → h.getLsbD 1 = true → (∀ n, ¬ LebAt u o n) → fails) ∧
    (∀ n, 8 * o ≤ u.length → clean → cleanExt → h.getLsbD 1 = true → LebAt u o n →
      s.sessLen.toNat - (s.pos / 8 + o + n) < lebValue u o n → fails)

/-- OBU_HDR off a byte boundary fails with Misaligned before it reads anything (60_exceptions.md R164, 20_memory.md
R59); LE and LEB128 too. The alignment test on VALID is the one on POS. -/
def Obligations.MisalignedStartFails : Prop :=
  ∀ (i : Instr) (s : State), s.Inv → i.wellFormed = true → (i = .leb128 ∨ i = .obuHdr ∨ ∃ n, i = .le n) →
    (s.aligned = true ↔ s.pos % 8 = 0) ∧
    (s.pos % 8 ≠ 0 → ∃ t, exec i s = .next t ∧ s.Failed t .misaligned ∧ s.SameObu t ∧ t.draws = s.draws) ∧
    (s.pos % 8 = 0 → ∀ t, exec i s = .next t → t.err ≠ .misaligned)

/-! ### BIND -/

/-- BIND latches the window and empties the cursor, or fails with IllegalCommand, the session unchanged, when the window
would pass 2^32; RESULT, the OBU registers, CTRL, the sticky bits and everything else stay. On an empty window every
command that needs a bit then fails with EndOfStream, and `ns 1` returns 0 (43_session.md R150). Which bytes count as
written by the host in the session is BindForgetsTheHostsWrites. -/
def Obligations.BindStartsASession : Prop :=
  ∀ (s : State),
    (s.srcBase.toNat + s.srcLen.toNat ≤ 2 ^ 32 → ∃ t, exec .bind s = .next t ∧
      t = { s with sessBase := s.srcBase, sessLen := s.srcLen, cur := { acc := 0, valid := 0, exh := false, foff := 0 },
                   tainted := t.tainted, err := .none, resValid := false, busy := false, ckpt := t.ckpt } ∧ t.pos = 0) ∧
    (2 ^ 32 < s.srcBase.toNat + s.srcLen.toNat →
      exec .bind s = .next { s with err := .illegalCommand, resValid := false, busy := false }) ∧
    (∀ t, s.srcLen = 0 → exec .bind s = .next t →
      (∀ i : Instr, i.wellFormed = true → i ≠ .bind → i ≠ .ns 1 →
        ∃ u, exec i t = .next u ∧ t.Failed u .endOfStream) ∧
      ∃ u, exec (.ns 1) t = .next u ∧ u.Succeeded 0) ∧
    decode 0x0000000000000009 = .ok .bind ∧
    BadWordsFail 0x09 (fun n => n ≠ 0) s

/-- A BIND that succeeds starts its session with no byte counted as written by the host, and one that fails keeps those of
the session that goes on. That the session starts when the BIND completes, so that bytes written while it was BUSY do not
count, is the model's choice (assumption 24); the set of written bytes is its reading of 20_memory.md R62
(assumption 5). -/
def Obligations.BindForgetsTheHostsWrites : Prop :=
  ∀ (s t : State), exec .bind s = .next t →
    (t.err = .none → t.tainted = []) ∧ (t.err ≠ .none → t.tainted = s.tainted)

/-! ### The command cycle, for every command -/

/-- The source's answers decide a command's outcome: if every read that it makes with all reads answered is answered, it
ends as it does then; if the first odd answer among them is `Err`, it fails with SourceError, not sticky; if it is none,
it never completes (20_memory.md R51, 60_exceptions.md R162, 93_implementation_defined.md U13). That a failed command
leaves its checkpoint in CKPT and the refill machine IDLE is the model's (assumptions 8 and 12), and so is the fault of a
source that never answers (assumption 13). -/
def Obligations.SourceAnswersDecideTheOutcome : Prop :=
  ∀ (i : Instr) (s t : State), s.Inv → exec i s.allAnswered = .next t →
    ((∀ k, k < s.readsTo t → s.answerAt k = .data) →
      exec i s = .next { t with srcScript := s.srcScript.drop (s.readsTo t) }) ∧
    (∀ k, k < s.readsTo t → s.FirstOddAnswer k .err → exec i s = .next (s.failedAt .sourceError (k + 1))) ∧
    (∀ k, k < s.readsTo t → s.FirstOddAnswer k .never → exec i s = .fault .sourceNeverAnswers)

/-- Every command completes once each source read it issues is answered (40_command_cycle.md R97): the only way to no
next state is an answer that never comes. -/
def Obligations.EveryCommandCompletesOnceAnswered : Prop :=
  ∀ (i : Instr) (s : State), (∀ a ∈ s.srcScript, a ≠ .never) → ∃ t, exec i s = .next t ∧ t.busy = false

/-- A failed command leaves the cursor, RESULT, the OBU registers, RSVD_WARN and the session as they were, and reports
only its error (40_command_cycle.md R94). -/
def Obligations.FailedCommandRollsBack : Prop :=
  ∀ (i : Instr) (s t : State), exec i s = .next t → t.err ≠ .none →
    s.Failed t t.err ∧ s.SameObu t ∧ s.SameSetup t ∧ t.unread = s.unread ∧ t.pos = s.pos

/-- A command that succeeds ends with ERR = 0, BUSY = 0 and RES_VALID = 1; BIND with RES_VALID = 0 and RESULT unchanged
(40_command_cycle.md R93). -/
def Obligations.SuccessfulCommandReports : Prop :=
  ∀ (i : Instr) (s t : State), exec i s = .next t → t.err = .none →
    t.busy = false ∧ (t.resValid = true ↔ i ≠ .bind) ∧ (i = .bind → t.result = s.result)

/-- Frame of the seven read commands, in every form, whether they succeed or fail: only the cursor, the hidden
checkpoint and refill state, RESULT, ERR, RES_VALID, BUSY and the source's used-up answers may change
(41_cursor_reads.md, "Status written"). -/
def Obligations.ReadCommandsFrame : Prop :=
  ∀ (i : Instr) (s t : State), i ≠ .obuHdr → i ≠ .bind → exec i s = .next t →
    s.SameSetup t ∧ s.SameObu t ∧ (t.err ≠ .none → t.result = s.result) ∧
      t = { s with cur := t.cur, ckpt := t.ckpt, fsm := t.fsm, result := t.result, err := t.err,
                   resValid := t.resValid, busy := false, srcScript := t.srcScript, draws := t.draws }

/-- Frame of OBU_HDR: beyond what a read command changes, only the OBU registers and RSVD_WARN, which is never cleared,
and both only on success (42_obu_framer.md R134). -/
def Obligations.ObuHdrFrame : Prop :=
  ∀ (s t : State), exec .obuHdr s = .next t →
    s.SameSetup t ∧ (t.err ≠ .none → s.SameObu t ∧ t.result = s.result) ∧ (s.rsvdWarn = true → t.rsvdWarn = true) ∧
      (t.err = .none → t.result = t.obu.payloadLen) ∧
      t = { s with cur := t.cur, ckpt := t.ckpt, fsm := t.fsm, result := t.result, err := t.err,
                   resValid := t.resValid, busy := false, srcScript := t.srcScript, draws := t.draws,
                   obu := t.obu, rsvdWarn := t.rsvdWarn }

/-- A command that failed with EndOfStream fails the same way when it is issued again in the state it left, if the source
answers (41_cursor_reads.md R108, marked [derived] there). -/
def Obligations.EndOfStreamRepeats : Prop :=
  ∀ (i : Instr) (s t : State), s.Inv → s.Undisturbed → exec i s = .next t → t.err = .endOfStream →
    t.SourceAnswers t.unfetched → ∃ u, exec i t = .next u ∧ t.Failed u .endOfStream

/-- The split law: `f a` then `f b` return the high and low parts of what `f (a+b)` returns, and leave the same unread
sequence (41_cursor_reads.md R107, marked [derived] there; 90_conflicts.md C4). -/
def Obligations.FieldReadsSplit : Prop :=
  ∀ (a b : BitVec 32) (s : State), 1 ≤ a.toNat → 1 ≤ b.toNat → a.toNat + b.toNat ≤ 32 → s.Ready 8 →
    a.toNat + b.toNat ≤ s.unread.length →
    ∃ t1 t2 t, exec (.f a) s = .next t1 ∧ exec (.f b) t1 = .next t2 ∧ exec (.f (a + b)) s = .next t ∧
      t1.err = .none ∧ t2.err = .none ∧ t.err = .none ∧
      t1.result.toNat * 2 ^ b.toNat + t2.result.toNat = t.result.toNat ∧ t2.unread = t.unread

/-- The reads are lazy, and fetch 4 bytes at a time: after a successful command other than BIND, FOFF and EXH are those
of the fewest refills that reach the new position (20_memory.md R54, R55 and R64). -/
def Obligations.RefillsAreLazy : Prop :=
  ∀ (i : Instr) (s t : State), s.Inv → i ≠ .bind → exec i s = .next t → t.err = .none →
    s.LazilyRefilled t ∧ s.pos ≤ t.pos

/-- SU is a bijection from the 2^n patterns onto −2^(n−1) .. 2^(n−1) − 1 (41_cursor_reads.md R109, marked [derived]
there). -/
def Obligations.SuIsABijection : Prop :=
  ∀ n : Nat, 1 ≤ n → n ≤ 32 →
    (∀ m, m < 2 ^ n → -(2 ^ (n - 1) : Int) ≤ suValue n m ∧ suValue n m ≤ 2 ^ (n - 1) - 1) ∧
    (∀ v : Int, -(2 ^ (n - 1) : Int) ≤ v → v ≤ 2 ^ (n - 1) - 1 → ∃ m, m < 2 ^ n ∧ suValue n m = v ∧
      ∀ m', m' < 2 ^ n → suValue n m' = v → m' = m)

/-- The range of every read command's RESULT, in every state: F below 2^n, F1 0 or 1, UVLC at most 2^32 − 1, LE below
2^(8n), LEB128 below 2^56, SU in −2^(n−1) .. 2^(n−1) − 1, NS below n (41_cursor_reads.md R101, R103, R109 to R112). -/
def Obligations.ReadResultsStayInRange : Prop :=
  ∀ (i : Instr) (s t : State), exec i s = .next t → t.err = .none →
    match i with
    | .f n => t.result.toNat < 2 ^ n.toNat
    | .f1 => t.result.toNat ≤ 1
    | .uvlc => t.result.toNat ≤ 2 ^ 32 - 1
    | .le n => t.result.toNat < 2 ^ (8 * n.toNat)
    | .leb128 => t.result.toNat < 2 ^ 56
    | .su n => -(2 ^ (n.toNat - 1) : Int) ≤ t.result.toInt ∧ t.result.toInt ≤ 2 ^ (n.toNat - 1) - 1
    | .ns n => t.result.toNat < n.toNat
    | .obuHdr => t.obu.info.hdrLen.toNat ≤ 10 ∧ 1 ≤ t.obu.info.hdrLen.toNat ∧ t.obu.size.toNat < 2 ^ 56
    | .bind => t.result = s.result

/-- How many source reads a command makes: never more than the window has bytes left, at most ceil(c/8) + 4 for c bits
consumed, and the bound of each command (40_command_cycle.md R97, marked [derived] there; the reads are counted by the
model's draws). -/
def Obligations.SourceReadsAreBounded : Prop :=
  ∀ (i : Instr) (s t : State), s.Inv → exec i s = .next t →
    s.readsTo t ≤ s.unfetched ∧ (i ≠ .bind → t.err = .none → s.readsTo t ≤ (t.pos - s.pos + 7) / 8 + 4) ∧
      match i with
      | .f _ => s.readsTo t ≤ 4
      | .f1 => s.readsTo t ≤ 4
      | .uvlc => True
      | .le n => s.readsTo t ≤ n.toNat + 4
      | .leb128 => s.readsTo t ≤ 12
      | .su _ => s.readsTo t ≤ 4
      | .ns _ => s.readsTo t ≤ 8
      | .obuHdr => s.readsTo t ≤ 14
      | .bind => s.readsTo t = 0

/-- Window confinement: a command's outcome depends on no source byte outside the unfetched part of the bound window, and
it writes none (20_memory.md R50 and R52). -/
def Obligations.OutcomeDependsOnTheWindowOnly : Prop :=
  ∀ (i : Instr) (s : State) (m : Memory), s.Inv →
    (∀ a, s.sessBase.toNat + s.cur.foff.toNat ≤ a → a < s.sessBase.toNat + s.sessLen.toNat →
      memRead m a = memRead s.mem a) →
    (∀ t, exec i s = .next t → t.mem = s.mem ∧ exec i { s with mem := m } = .next { t with mem := m }) ∧
      (∀ f, exec i s = .fault f → exec i { s with mem := m } = .fault f)

/-- A command runs under the policy sampled at its issue: a change of CTRL.STRICT in between does not alter it, and the
next command issued takes the new value (70_reset_and_hazards.md R188). -/
def Obligations.PolicyIsSampledAtIssue : Prop :=
  (∀ (i : Instr) (s t : State) (b : Bool), exec i s = .next t →
      exec i { s with strict := b } = .next { t with strict := b }) ∧
    (∀ (s : State) (v w : Word) (rest : List HostOp), s.busy = false →
      s.inbox = .regWrite 0x00 v :: .regWrite 0x10 w :: rest →
      ∃ t u, step s = .next t ∧ step t = .next u ∧ u.strictS = v.getLsbD 0 ∧ u.cmdWord = w ∧ u.busy = true)

/-- A write of SRC_BASE or SRC_LEN changes nothing but that register, and the two have no effect on any command but BIND,
which starts its session on the values they hold then (70_reset_and_hazards.md R186). -/
def Obligations.SrcRegistersActAtBindOnly : Prop :=
  (∀ (i : Instr) (s t : State) (b l : BitVec 32), i ≠ .bind → exec i s = .next t →
      exec i { s with srcBase := b, srcLen := l } = .next { t with srcBase := b, srcLen := l }) ∧
    (∀ (s : State) (b l : BitVec 32), b.toNat + l.toNat ≤ 2 ^ 32 →
      ∃ t, exec .bind { s with srcBase := b, srcLen := l } = .next t ∧ t.sessBase = b ∧ t.sessLen = l) ∧
    (∀ (s : State) (v : Word) (rest : List HostOp), s.busy = false →
      (s.inbox = .regWrite 0x20 v :: rest →
        step s = .next { s with inbox := rest, srcBase := BitVec.ofNat 32 (v.toNat % 2 ^ 32) }) ∧
      (s.inbox = .regWrite 0x28 v :: rest →
        step s = .next { s with inbox := rest, srcLen := BitVec.ofNat 32 (v.toNat % 2 ^ 32) }))

/-- Which commands report which error code, and the codes in STATUS (60_exceptions.md R160). -/
def Obligations.ErrorsComeFromTheirCommands : Prop :=
  ∀ (i : Instr) (s t : State), exec i s = .next t →
    let code := (statusWord t).toNat / 2 ^ 4 % 2 ^ 4
    (t.err = .none → code = 0) ∧
      (t.err = .endOfStream → code = 1 ∧ i ≠ .bind) ∧
      (t.err = .sourceError → code = 2 ∧ i ≠ .bind) ∧
      (t.err = .malformedField → code = 3 ∧ i = .obuHdr ∧ s.strictS = true) ∧
      (t.err = .misaligned → code = 4 ∧ (i = .leb128 ∨ i = .obuHdr ∨ ∃ n, i = .le n)) ∧
      (t.err = .illegalCommand → code = 5 ∧
        (i.wellFormed = false ∨ (i = .bind ∧ 2 ^ 32 < s.srcBase.toNat + s.srcLen.toNat)))

/-- The sticky bits: RSVD_WARN and OVERRUN are cleared only by a host write of 1 to them with BUSY = 0 or by the reset
input; RSVD_WARN is set only by an OBU_HDR that succeeds under the lenient policy, OVERRUN only by a host write while
BUSY = 1; and neither fails a command nor changes ERR (60_exceptions.md R170, 70_reset_and_hazards.md R189). -/
def Obligations.StickyBitsStayUntilCleared : Prop :=
  (∀ s t : State, step s = .next t → (¬ ∃ rest, s.inbox = .reset :: rest) →
      (s.rsvdWarn = true → t.rsvdWarn = false →
        s.busy = false ∧ ∃ v rest, s.inbox = .regWrite 0x08 v :: rest ∧ v.getLsbD 9 = true) ∧
      (s.overrun = true → t.overrun = false →
        s.busy = false ∧ ∃ v rest, s.inbox = .regWrite 0x08 v :: rest ∧ v.getLsbD 10 = true) ∧
      (s.rsvdWarn = false → t.rsvdWarn = true →
        blockTurn s = true ∧ decode (fetch s) = .ok .obuHdr ∧ s.strictS = false ∧ t.err = .none) ∧
      (s.overrun = false → t.overrun = true → s.busy = true ∧ ∃ off v rest, s.inbox = .regWrite off v :: rest)) ∧
    (∀ (s : State) (v : Word) (rest : List HostOp), s.busy = false → s.inbox = .regWrite 0x08 v :: rest →
      ∃ t, step s = .next t ∧ (v.getLsbD 9 = true → t.rsvdWarn = false) ∧ (v.getLsbD 10 = true → t.overrun = false)) ∧
    (∀ (s : State) (rest : List HostOp), s.inbox = .reset :: rest →
      ∃ t, step s = .next t ∧ t.rsvdWarn = false ∧ t.overrun = false) ∧
    (∀ (i : Instr) (s t : State) (w o : Bool), exec i s = .next t →
      ∃ u, exec i { s with rsvdWarn := w, overrun := o } = .next u ∧
        u = { t with rsvdWarn := u.rsvdWarn, overrun := o })

/-! ### Whole-machine rules, for every step -/

/-- The invariant is kept by every step, of the block and of the host, from every state that meets it
(10_state.md R21, R23, R24 and R26). -/
def Obligations.StepKeepsInvariant : Prop :=
  ∀ s t : State, s.Inv → step s = .next t → t.Inv

/-- Within a session the window is fixed, FOFF never falls and EXH stays set: a step changes SESS_BASE or SESS_LEN,
lowers FOFF or clears EXH only if it is a BIND that succeeds or the reset input (10_state.md R22, R24 and R25,
43_session.md R151). -/
def Obligations.SessionEndsByBindOrResetOnly : Prop :=
  ∀ s t : State, s.Inv → step s = .next t →
    (t.sessBase = s.sessBase ∧ t.sessLen = s.sessLen ∧ s.cur.foff.toNat ≤ t.cur.foff.toNat ∧ s.pos ≤ t.pos ∧
      (s.cur.exh = true → t.cur.exh = true)) ∨
    (blockTurn s = true ∧ decode (fetch s) = .ok .bind ∧ t.err = .none) ∨ (∃ rest, s.inbox = .reset :: rest)

/-- Only a successful OBU_HDR, or the reset input, changes the OBU registers, and only a command or the reset input
changes RESULT (10_state.md R36 and R42 to R45). -/
def Obligations.ResultRegistersChangeByCommandsOnly : Prop :=
  ∀ s t : State, step s = .next t →
    (t.obu = s.obu ∨ (blockTurn s = true ∧ decode (fetch s) = .ok .obuHdr ∧ t.err = .none) ∨
      ∃ rest, s.inbox = .reset :: rest) ∧
    (t.result = s.result ∨ (blockTurn s = true ∧ t.err = .none ∧ t.resValid = true) ∨
      ∃ rest, s.inbox = .reset :: rest)
end

