-- ==== Sys2Proof/Laws/Bits.lean ====
section
/-! SUPPORT. Bit strings and their values (00_scope.md R10), and the bits of memory bytes. -/

namespace Sys2Proof.Machine

theorem foldl_bits (u : List Bool) (v : Nat) :
    u.foldl (fun v b => 2 * v + b.toNat) v = v * 2 ^ u.length + bitsVal u := by
  induction u generalizing v with
  | nil => simp [bitsVal]
  | cons b u ih =>
    have h : bitsVal (b :: u) = (2 * 0 + b.toNat) * 2 ^ u.length + bitsVal u := ih _
    rw [List.foldl_cons, ih, h, List.length_cons, Nat.pow_succ]
    ring

@[simp] theorem bitsVal_nil : bitsVal [] = 0 := rfl

theorem bitsVal_append (u v : List Bool) : bitsVal (u ++ v) = bitsVal u * 2 ^ v.length + bitsVal v := by
  rw [bitsVal, List.foldl_append, foldl_bits]; rfl

theorem bitsVal_cons (b : Bool) (u : List Bool) : bitsVal (b :: u) = b.toNat * 2 ^ u.length + bitsVal u := by
  rw [bitsVal, List.foldl_cons, foldl_bits]; simp

theorem bitsVal_lt (u : List Bool) : bitsVal u < 2 ^ u.length := by
  induction u with
  | nil => decide
  | cons b u ih =>
    rw [bitsVal_cons, List.length_cons, Nat.pow_succ]
    cases b <;> simp <;> omega

@[simp] theorem byteBits_length (b : Byte) : (byteBits b).length = 8 := by simp [byteBits]

@[simp] theorem Cursor.bits_length (c : Cursor) : c.bits.length = c.valid.toNat := by simp [Cursor.bits]

@[simp] theorem windowBits_length (m : Memory) (a n : Nat) : (windowBits m a n).length = 8 * n := by
  induction n generalizing a with
  | zero => rfl
  | succ n ih => simp [windowBits, ih]; omega

theorem windowBits_append (m : Memory) (a j n : Nat) :
    windowBits m a (j + n) = windowBits m a j ++ windowBits m (a + j) n := by
  induction j generalizing a with
  | zero => simp [windowBits]
  | succ j ih => rw [Nat.succ_add, windowBits, windowBits, ih, List.append_assoc, Nat.add_assoc, Nat.add_comm 1 j]

/-- |U| = VALID + 8·(SESS_LEN − FOFF) (10_state.md R28). -/
@[simp] theorem State.unread_length (s : State) : s.unread.length = s.cur.valid.toNat + 8 * s.unfetched := by
  simp [State.unread]

end Sys2Proof.Machine
end

