-- ==== Sys2Proof/Laws/Operands.lean ====
section
/-! SUPPORT. The operand checks against `Instr.wellFormed`, the encoding's fields, and the host register map. -/

namespace Sys2Proof.Machine

/-- The range check a command starts with is the well-formedness of its syntax. -/
theorem legal_eq_wellFormed (n : BitVec 32) :
    legalBits n = (Instr.f n).wellFormed ∧ legalBits n = (Instr.su n).wellFormed ∧
      legalBytes n = (Instr.le n).wellFormed ∧ legalAlphabet n = (Instr.ns n).wellFormed :=
  ⟨rfl, rfl, rfl, rfl⟩

@[simp] theorem legalBits_iff (n : BitVec 32) : legalBits n = true ↔ 1 ≤ n.toNat ∧ n.toNat ≤ 32 := by
  simp [legalBits]

@[simp] theorem legalBytes_iff (n : BitVec 32) : legalBytes n = true ↔ 1 ≤ n.toNat ∧ n.toNat ≤ 8 := by
  simp [legalBytes]

@[simp] theorem legalAlphabet_iff (n : BitVec 32) : legalAlphabet n = true ↔ 1 ≤ n.toNat := by
  simp [legalAlphabet]

@[simp] theorem legalWindow_iff (s : State) :
    legalWindow s = true ↔ s.srcBase.toNat + s.srcLen.toNat ≤ 2 ^ 32 := by
  simp [legalWindow, Config.srcSpace]

/-- Every offset that is a multiple of 8 below 0x80 names a register, and no other does (10_state.md R32 and R46). -/
theorem hostRegOf_isSome (off : Nat) : (hostRegOf off).isSome = true ↔ off % 8 = 0 ∧ off < 0x80 := by
  unfold hostRegOf
  split
  · rename_i h
    have key : ∀ k, (hostRegAt k).isSome = true ↔ k < 16 := by
      intro k
      unfold hostRegAt
      split <;> simp_all
      omega
    rw [key]
    omega
  · simp_all

/-- Whose turn it is (assumption 2). -/
theorem blockTurn_eq_true {s : State} :
    blockTurn s = true ↔ s.busy = true ∧ (s.inbox = [] ∨ ∃ rest, s.inbox = .awaitDone :: rest) := by
  unfold blockTurn
  rcases s.inbox with _ | ⟨⟨⟩, rest⟩ <;> simp

end Sys2Proof.Machine
end

