-- ==== Sys2Proof/Laws/State.lean ====
section
/-! SUPPORT. One lemma per field per update of State, so that no proof unfolds a record update. -/

namespace Sys2Proof.Machine

variable (s : State)

/-! ### setCur -/

@[simp] theorem State.setCur_cur (c : Cursor) : (s.setCur c).cur = c := rfl
@[simp] theorem State.setCur_ckpt (c : Cursor) : (s.setCur c).ckpt = s.ckpt := rfl
@[simp] theorem State.setCur_fsm (c : Cursor) : (s.setCur c).fsm = s.fsm := rfl
@[simp] theorem State.setCur_sessBase (c : Cursor) : (s.setCur c).sessBase = s.sessBase := rfl
@[simp] theorem State.setCur_sessLen (c : Cursor) : (s.setCur c).sessLen = s.sessLen := rfl
@[simp] theorem State.setCur_strict (c : Cursor) : (s.setCur c).strict = s.strict := rfl
@[simp] theorem State.setCur_busy (c : Cursor) : (s.setCur c).busy = s.busy := rfl
@[simp] theorem State.setCur_resValid (c : Cursor) : (s.setCur c).resValid = s.resValid := rfl
@[simp] theorem State.setCur_err (c : Cursor) : (s.setCur c).err = s.err := rfl
@[simp] theorem State.setCur_rsvdWarn (c : Cursor) : (s.setCur c).rsvdWarn = s.rsvdWarn := rfl
@[simp] theorem State.setCur_overrun (c : Cursor) : (s.setCur c).overrun = s.overrun := rfl
@[simp] theorem State.setCur_cmdWord (c : Cursor) : (s.setCur c).cmdWord = s.cmdWord := rfl
@[simp] theorem State.setCur_strictS (c : Cursor) : (s.setCur c).strictS = s.strictS := rfl
@[simp] theorem State.setCur_result (c : Cursor) : (s.setCur c).result = s.result := rfl
@[simp] theorem State.setCur_srcBase (c : Cursor) : (s.setCur c).srcBase = s.srcBase := rfl
@[simp] theorem State.setCur_srcLen (c : Cursor) : (s.setCur c).srcLen = s.srcLen := rfl
@[simp] theorem State.setCur_obu (c : Cursor) : (s.setCur c).obu = s.obu := rfl
@[simp] theorem State.setCur_mem (c : Cursor) : (s.setCur c).mem = s.mem := rfl
@[simp] theorem State.setCur_tainted (c : Cursor) : (s.setCur c).tainted = s.tainted := rfl
@[simp] theorem State.setCur_srcScript (c : Cursor) : (s.setCur c).srcScript = s.srcScript := rfl
@[simp] theorem State.setCur_draws (c : Cursor) : (s.setCur c).draws = s.draws := rfl
@[simp] theorem State.setCur_inbox (c : Cursor) : (s.setCur c).inbox = s.inbox := rfl
@[simp] theorem State.setCur_rdata (c : Cursor) : (s.setCur c).rdata = s.rdata := rfl

/-! ### setFsm -/

@[simp] theorem State.setFsm_cur (f : RefillFsm) : (s.setFsm f).cur = s.cur := rfl
@[simp] theorem State.setFsm_ckpt (f : RefillFsm) : (s.setFsm f).ckpt = s.ckpt := rfl
@[simp] theorem State.setFsm_fsm (f : RefillFsm) : (s.setFsm f).fsm = f := rfl
@[simp] theorem State.setFsm_sessBase (f : RefillFsm) : (s.setFsm f).sessBase = s.sessBase := rfl
@[simp] theorem State.setFsm_sessLen (f : RefillFsm) : (s.setFsm f).sessLen = s.sessLen := rfl
@[simp] theorem State.setFsm_strict (f : RefillFsm) : (s.setFsm f).strict = s.strict := rfl
@[simp] theorem State.setFsm_busy (f : RefillFsm) : (s.setFsm f).busy = s.busy := rfl
@[simp] theorem State.setFsm_resValid (f : RefillFsm) : (s.setFsm f).resValid = s.resValid := rfl
@[simp] theorem State.setFsm_err (f : RefillFsm) : (s.setFsm f).err = s.err := rfl
@[simp] theorem State.setFsm_rsvdWarn (f : RefillFsm) : (s.setFsm f).rsvdWarn = s.rsvdWarn := rfl
@[simp] theorem State.setFsm_overrun (f : RefillFsm) : (s.setFsm f).overrun = s.overrun := rfl
@[simp] theorem State.setFsm_cmdWord (f : RefillFsm) : (s.setFsm f).cmdWord = s.cmdWord := rfl
@[simp] theorem State.setFsm_strictS (f : RefillFsm) : (s.setFsm f).strictS = s.strictS := rfl
@[simp] theorem State.setFsm_result (f : RefillFsm) : (s.setFsm f).result = s.result := rfl
@[simp] theorem State.setFsm_srcBase (f : RefillFsm) : (s.setFsm f).srcBase = s.srcBase := rfl
@[simp] theorem State.setFsm_srcLen (f : RefillFsm) : (s.setFsm f).srcLen = s.srcLen := rfl
@[simp] theorem State.setFsm_obu (f : RefillFsm) : (s.setFsm f).obu = s.obu := rfl
@[simp] theorem State.setFsm_mem (f : RefillFsm) : (s.setFsm f).mem = s.mem := rfl
@[simp] theorem State.setFsm_tainted (f : RefillFsm) : (s.setFsm f).tainted = s.tainted := rfl
@[simp] theorem State.setFsm_srcScript (f : RefillFsm) : (s.setFsm f).srcScript = s.srcScript := rfl
@[simp] theorem State.setFsm_draws (f : RefillFsm) : (s.setFsm f).draws = s.draws := rfl
@[simp] theorem State.setFsm_inbox (f : RefillFsm) : (s.setFsm f).inbox = s.inbox := rfl
@[simp] theorem State.setFsm_rdata (f : RefillFsm) : (s.setFsm f).rdata = s.rdata := rfl

/-! ### endRefill -/

@[simp] theorem State.endRefill_cur (j : Nat) : (s.endRefill j).cur = { s.cur with valid := BitVec.ofNat 6 (8 * j) } := rfl
@[simp] theorem State.endRefill_ckpt (j : Nat) : (s.endRefill j).ckpt = s.ckpt := rfl
@[simp] theorem State.endRefill_fsm (j : Nat) : (s.endRefill j).fsm = .idle := rfl
@[simp] theorem State.endRefill_sessBase (j : Nat) : (s.endRefill j).sessBase = s.sessBase := rfl
@[simp] theorem State.endRefill_sessLen (j : Nat) : (s.endRefill j).sessLen = s.sessLen := rfl
@[simp] theorem State.endRefill_strict (j : Nat) : (s.endRefill j).strict = s.strict := rfl
@[simp] theorem State.endRefill_busy (j : Nat) : (s.endRefill j).busy = s.busy := rfl
@[simp] theorem State.endRefill_resValid (j : Nat) : (s.endRefill j).resValid = s.resValid := rfl
@[simp] theorem State.endRefill_err (j : Nat) : (s.endRefill j).err = s.err := rfl
@[simp] theorem State.endRefill_rsvdWarn (j : Nat) : (s.endRefill j).rsvdWarn = s.rsvdWarn := rfl
@[simp] theorem State.endRefill_overrun (j : Nat) : (s.endRefill j).overrun = s.overrun := rfl
@[simp] theorem State.endRefill_cmdWord (j : Nat) : (s.endRefill j).cmdWord = s.cmdWord := rfl
@[simp] theorem State.endRefill_strictS (j : Nat) : (s.endRefill j).strictS = s.strictS := rfl
@[simp] theorem State.endRefill_result (j : Nat) : (s.endRefill j).result = s.result := rfl
@[simp] theorem State.endRefill_srcBase (j : Nat) : (s.endRefill j).srcBase = s.srcBase := rfl
@[simp] theorem State.endRefill_srcLen (j : Nat) : (s.endRefill j).srcLen = s.srcLen := rfl
@[simp] theorem State.endRefill_obu (j : Nat) : (s.endRefill j).obu = s.obu := rfl
@[simp] theorem State.endRefill_mem (j : Nat) : (s.endRefill j).mem = s.mem := rfl
@[simp] theorem State.endRefill_tainted (j : Nat) : (s.endRefill j).tainted = s.tainted := rfl
@[simp] theorem State.endRefill_srcScript (j : Nat) : (s.endRefill j).srcScript = s.srcScript := rfl
@[simp] theorem State.endRefill_draws (j : Nat) : (s.endRefill j).draws = s.draws := rfl
@[simp] theorem State.endRefill_inbox (j : Nat) : (s.endRefill j).inbox = s.inbox := rfl
@[simp] theorem State.endRefill_rdata (j : Nat) : (s.endRefill j).rdata = s.rdata := rfl

/-! ### markExhausted -/

@[simp] theorem State.markExhausted_cur : (s.markExhausted).cur = { s.cur with exh := true } := rfl
@[simp] theorem State.markExhausted_ckpt : (s.markExhausted).ckpt = s.ckpt := rfl
@[simp] theorem State.markExhausted_fsm : (s.markExhausted).fsm = s.fsm := rfl
@[simp] theorem State.markExhausted_sessBase : (s.markExhausted).sessBase = s.sessBase := rfl
@[simp] theorem State.markExhausted_sessLen : (s.markExhausted).sessLen = s.sessLen := rfl
@[simp] theorem State.markExhausted_strict : (s.markExhausted).strict = s.strict := rfl
@[simp] theorem State.markExhausted_busy : (s.markExhausted).busy = s.busy := rfl
@[simp] theorem State.markExhausted_resValid : (s.markExhausted).resValid = s.resValid := rfl
@[simp] theorem State.markExhausted_err : (s.markExhausted).err = s.err := rfl
@[simp] theorem State.markExhausted_rsvdWarn : (s.markExhausted).rsvdWarn = s.rsvdWarn := rfl
@[simp] theorem State.markExhausted_overrun : (s.markExhausted).overrun = s.overrun := rfl
@[simp] theorem State.markExhausted_cmdWord : (s.markExhausted).cmdWord = s.cmdWord := rfl
@[simp] theorem State.markExhausted_strictS : (s.markExhausted).strictS = s.strictS := rfl
@[simp] theorem State.markExhausted_result : (s.markExhausted).result = s.result := rfl
@[simp] theorem State.markExhausted_srcBase : (s.markExhausted).srcBase = s.srcBase := rfl
@[simp] theorem State.markExhausted_srcLen : (s.markExhausted).srcLen = s.srcLen := rfl
@[simp] theorem State.markExhausted_obu : (s.markExhausted).obu = s.obu := rfl
@[simp] theorem State.markExhausted_mem : (s.markExhausted).mem = s.mem := rfl
@[simp] theorem State.markExhausted_tainted : (s.markExhausted).tainted = s.tainted := rfl
@[simp] theorem State.markExhausted_srcScript : (s.markExhausted).srcScript = s.srcScript := rfl
@[simp] theorem State.markExhausted_draws : (s.markExhausted).draws = s.draws := rfl
@[simp] theorem State.markExhausted_inbox : (s.markExhausted).inbox = s.inbox := rfl
@[simp] theorem State.markExhausted_rdata : (s.markExhausted).rdata = s.rdata := rfl

/-! ### nextAnswer -/

@[simp] theorem State.nextAnswer_cur : (s.nextAnswer).cur = s.cur := rfl
@[simp] theorem State.nextAnswer_ckpt : (s.nextAnswer).ckpt = s.ckpt := rfl
@[simp] theorem State.nextAnswer_fsm : (s.nextAnswer).fsm = s.fsm := rfl
@[simp] theorem State.nextAnswer_sessBase : (s.nextAnswer).sessBase = s.sessBase := rfl
@[simp] theorem State.nextAnswer_sessLen : (s.nextAnswer).sessLen = s.sessLen := rfl
@[simp] theorem State.nextAnswer_strict : (s.nextAnswer).strict = s.strict := rfl
@[simp] theorem State.nextAnswer_busy : (s.nextAnswer).busy = s.busy := rfl
@[simp] theorem State.nextAnswer_resValid : (s.nextAnswer).resValid = s.resValid := rfl
@[simp] theorem State.nextAnswer_err : (s.nextAnswer).err = s.err := rfl
@[simp] theorem State.nextAnswer_rsvdWarn : (s.nextAnswer).rsvdWarn = s.rsvdWarn := rfl
@[simp] theorem State.nextAnswer_overrun : (s.nextAnswer).overrun = s.overrun := rfl
@[simp] theorem State.nextAnswer_cmdWord : (s.nextAnswer).cmdWord = s.cmdWord := rfl
@[simp] theorem State.nextAnswer_strictS : (s.nextAnswer).strictS = s.strictS := rfl
@[simp] theorem State.nextAnswer_result : (s.nextAnswer).result = s.result := rfl
@[simp] theorem State.nextAnswer_srcBase : (s.nextAnswer).srcBase = s.srcBase := rfl
@[simp] theorem State.nextAnswer_srcLen : (s.nextAnswer).srcLen = s.srcLen := rfl
@[simp] theorem State.nextAnswer_obu : (s.nextAnswer).obu = s.obu := rfl
@[simp] theorem State.nextAnswer_mem : (s.nextAnswer).mem = s.mem := rfl
@[simp] theorem State.nextAnswer_tainted : (s.nextAnswer).tainted = s.tainted := rfl
@[simp] theorem State.nextAnswer_srcScript : (s.nextAnswer).srcScript = s.srcScript.tail := rfl
@[simp] theorem State.nextAnswer_draws : (s.nextAnswer).draws = s.draws + 1 := rfl
@[simp] theorem State.nextAnswer_inbox : (s.nextAnswer).inbox = s.inbox := rfl
@[simp] theorem State.nextAnswer_rdata : (s.nextAnswer).rdata = s.rdata := rfl

/-! ### checkpoint -/

@[simp] theorem State.checkpoint_cur : (s.checkpoint).cur = s.cur := rfl
@[simp] theorem State.checkpoint_ckpt : (s.checkpoint).ckpt = s.cur := rfl
@[simp] theorem State.checkpoint_fsm : (s.checkpoint).fsm = s.fsm := rfl
@[simp] theorem State.checkpoint_sessBase : (s.checkpoint).sessBase = s.sessBase := rfl
@[simp] theorem State.checkpoint_sessLen : (s.checkpoint).sessLen = s.sessLen := rfl
@[simp] theorem State.checkpoint_strict : (s.checkpoint).strict = s.strict := rfl
@[simp] theorem State.checkpoint_busy : (s.checkpoint).busy = s.busy := rfl
@[simp] theorem State.checkpoint_resValid : (s.checkpoint).resValid = s.resValid := rfl
@[simp] theorem State.checkpoint_err : (s.checkpoint).err = s.err := rfl
@[simp] theorem State.checkpoint_rsvdWarn : (s.checkpoint).rsvdWarn = s.rsvdWarn := rfl
@[simp] theorem State.checkpoint_overrun : (s.checkpoint).overrun = s.overrun := rfl
@[simp] theorem State.checkpoint_cmdWord : (s.checkpoint).cmdWord = s.cmdWord := rfl
@[simp] theorem State.checkpoint_strictS : (s.checkpoint).strictS = s.strictS := rfl
@[simp] theorem State.checkpoint_result : (s.checkpoint).result = s.result := rfl
@[simp] theorem State.checkpoint_srcBase : (s.checkpoint).srcBase = s.srcBase := rfl
@[simp] theorem State.checkpoint_srcLen : (s.checkpoint).srcLen = s.srcLen := rfl
@[simp] theorem State.checkpoint_obu : (s.checkpoint).obu = s.obu := rfl
@[simp] theorem State.checkpoint_mem : (s.checkpoint).mem = s.mem := rfl
@[simp] theorem State.checkpoint_tainted : (s.checkpoint).tainted = s.tainted := rfl
@[simp] theorem State.checkpoint_srcScript : (s.checkpoint).srcScript = s.srcScript := rfl
@[simp] theorem State.checkpoint_draws : (s.checkpoint).draws = s.draws := rfl
@[simp] theorem State.checkpoint_inbox : (s.checkpoint).inbox = s.inbox := rfl
@[simp] theorem State.checkpoint_rdata : (s.checkpoint).rdata = s.rdata := rfl

/-! ### rollback -/

@[simp] theorem State.rollback_cur : (s.rollback).cur = s.ckpt := rfl
@[simp] theorem State.rollback_ckpt : (s.rollback).ckpt = s.ckpt := rfl
@[simp] theorem State.rollback_fsm : (s.rollback).fsm = .idle := rfl
@[simp] theorem State.rollback_sessBase : (s.rollback).sessBase = s.sessBase := rfl
@[simp] theorem State.rollback_sessLen : (s.rollback).sessLen = s.sessLen := rfl
@[simp] theorem State.rollback_strict : (s.rollback).strict = s.strict := rfl
@[simp] theorem State.rollback_busy : (s.rollback).busy = s.busy := rfl
@[simp] theorem State.rollback_resValid : (s.rollback).resValid = s.resValid := rfl
@[simp] theorem State.rollback_err : (s.rollback).err = s.err := rfl
@[simp] theorem State.rollback_rsvdWarn : (s.rollback).rsvdWarn = s.rsvdWarn := rfl
@[simp] theorem State.rollback_overrun : (s.rollback).overrun = s.overrun := rfl
@[simp] theorem State.rollback_cmdWord : (s.rollback).cmdWord = s.cmdWord := rfl
@[simp] theorem State.rollback_strictS : (s.rollback).strictS = s.strictS := rfl
@[simp] theorem State.rollback_result : (s.rollback).result = s.result := rfl
@[simp] theorem State.rollback_srcBase : (s.rollback).srcBase = s.srcBase := rfl
@[simp] theorem State.rollback_srcLen : (s.rollback).srcLen = s.srcLen := rfl
@[simp] theorem State.rollback_obu : (s.rollback).obu = s.obu := rfl
@[simp] theorem State.rollback_mem : (s.rollback).mem = s.mem := rfl
@[simp] theorem State.rollback_tainted : (s.rollback).tainted = s.tainted := rfl
@[simp] theorem State.rollback_srcScript : (s.rollback).srcScript = s.srcScript := rfl
@[simp] theorem State.rollback_draws : (s.rollback).draws = s.draws := rfl
@[simp] theorem State.rollback_inbox : (s.rollback).inbox = s.inbox := rfl
@[simp] theorem State.rollback_rdata : (s.rollback).rdata = s.rdata := rfl

/-! ### failWith -/

@[simp] theorem State.failWith_cur (e : ErrCode) : (s.failWith e).cur = s.cur := rfl
@[simp] theorem State.failWith_ckpt (e : ErrCode) : (s.failWith e).ckpt = s.ckpt := rfl
@[simp] theorem State.failWith_fsm (e : ErrCode) : (s.failWith e).fsm = s.fsm := rfl
@[simp] theorem State.failWith_sessBase (e : ErrCode) : (s.failWith e).sessBase = s.sessBase := rfl
@[simp] theorem State.failWith_sessLen (e : ErrCode) : (s.failWith e).sessLen = s.sessLen := rfl
@[simp] theorem State.failWith_strict (e : ErrCode) : (s.failWith e).strict = s.strict := rfl
@[simp] theorem State.failWith_busy (e : ErrCode) : (s.failWith e).busy = false := rfl
@[simp] theorem State.failWith_resValid (e : ErrCode) : (s.failWith e).resValid = false := rfl
@[simp] theorem State.failWith_err (e : ErrCode) : (s.failWith e).err = e := rfl
@[simp] theorem State.failWith_rsvdWarn (e : ErrCode) : (s.failWith e).rsvdWarn = s.rsvdWarn := rfl
@[simp] theorem State.failWith_overrun (e : ErrCode) : (s.failWith e).overrun = s.overrun := rfl
@[simp] theorem State.failWith_cmdWord (e : ErrCode) : (s.failWith e).cmdWord = s.cmdWord := rfl
@[simp] theorem State.failWith_strictS (e : ErrCode) : (s.failWith e).strictS = s.strictS := rfl
@[simp] theorem State.failWith_result (e : ErrCode) : (s.failWith e).result = s.result := rfl
@[simp] theorem State.failWith_srcBase (e : ErrCode) : (s.failWith e).srcBase = s.srcBase := rfl
@[simp] theorem State.failWith_srcLen (e : ErrCode) : (s.failWith e).srcLen = s.srcLen := rfl
@[simp] theorem State.failWith_obu (e : ErrCode) : (s.failWith e).obu = s.obu := rfl
@[simp] theorem State.failWith_mem (e : ErrCode) : (s.failWith e).mem = s.mem := rfl
@[simp] theorem State.failWith_tainted (e : ErrCode) : (s.failWith e).tainted = s.tainted := rfl
@[simp] theorem State.failWith_srcScript (e : ErrCode) : (s.failWith e).srcScript = s.srcScript := rfl
@[simp] theorem State.failWith_draws (e : ErrCode) : (s.failWith e).draws = s.draws := rfl
@[simp] theorem State.failWith_inbox (e : ErrCode) : (s.failWith e).inbox = s.inbox := rfl
@[simp] theorem State.failWith_rdata (e : ErrCode) : (s.failWith e).rdata = s.rdata := rfl

/-! ### succeed -/

@[simp] theorem State.succeed_cur (v : Word) : (s.succeed v).cur = s.cur := rfl
@[simp] theorem State.succeed_ckpt (v : Word) : (s.succeed v).ckpt = s.ckpt := rfl
@[simp] theorem State.succeed_fsm (v : Word) : (s.succeed v).fsm = s.fsm := rfl
@[simp] theorem State.succeed_sessBase (v : Word) : (s.succeed v).sessBase = s.sessBase := rfl
@[simp] theorem State.succeed_sessLen (v : Word) : (s.succeed v).sessLen = s.sessLen := rfl
@[simp] theorem State.succeed_strict (v : Word) : (s.succeed v).strict = s.strict := rfl
@[simp] theorem State.succeed_busy (v : Word) : (s.succeed v).busy = false := rfl
@[simp] theorem State.succeed_resValid (v : Word) : (s.succeed v).resValid = true := rfl
@[simp] theorem State.succeed_err (v : Word) : (s.succeed v).err = .none := rfl
@[simp] theorem State.succeed_rsvdWarn (v : Word) : (s.succeed v).rsvdWarn = s.rsvdWarn := rfl
@[simp] theorem State.succeed_overrun (v : Word) : (s.succeed v).overrun = s.overrun := rfl
@[simp] theorem State.succeed_cmdWord (v : Word) : (s.succeed v).cmdWord = s.cmdWord := rfl
@[simp] theorem State.succeed_strictS (v : Word) : (s.succeed v).strictS = s.strictS := rfl
@[simp] theorem State.succeed_result (v : Word) : (s.succeed v).result = v := rfl
@[simp] theorem State.succeed_srcBase (v : Word) : (s.succeed v).srcBase = s.srcBase := rfl
@[simp] theorem State.succeed_srcLen (v : Word) : (s.succeed v).srcLen = s.srcLen := rfl
@[simp] theorem State.succeed_obu (v : Word) : (s.succeed v).obu = s.obu := rfl
@[simp] theorem State.succeed_mem (v : Word) : (s.succeed v).mem = s.mem := rfl
@[simp] theorem State.succeed_tainted (v : Word) : (s.succeed v).tainted = s.tainted := rfl
@[simp] theorem State.succeed_srcScript (v : Word) : (s.succeed v).srcScript = s.srcScript := rfl
@[simp] theorem State.succeed_draws (v : Word) : (s.succeed v).draws = s.draws := rfl
@[simp] theorem State.succeed_inbox (v : Word) : (s.succeed v).inbox = s.inbox := rfl
@[simp] theorem State.succeed_rdata (v : Word) : (s.succeed v).rdata = s.rdata := rfl

/-! ### succeedNoValue -/

@[simp] theorem State.succeedNoValue_cur : (s.succeedNoValue).cur = s.cur := rfl
@[simp] theorem State.succeedNoValue_ckpt : (s.succeedNoValue).ckpt = s.ckpt := rfl
@[simp] theorem State.succeedNoValue_fsm : (s.succeedNoValue).fsm = s.fsm := rfl
@[simp] theorem State.succeedNoValue_sessBase : (s.succeedNoValue).sessBase = s.sessBase := rfl
@[simp] theorem State.succeedNoValue_sessLen : (s.succeedNoValue).sessLen = s.sessLen := rfl
@[simp] theorem State.succeedNoValue_strict : (s.succeedNoValue).strict = s.strict := rfl
@[simp] theorem State.succeedNoValue_busy : (s.succeedNoValue).busy = false := rfl
@[simp] theorem State.succeedNoValue_resValid : (s.succeedNoValue).resValid = false := rfl
@[simp] theorem State.succeedNoValue_err : (s.succeedNoValue).err = .none := rfl
@[simp] theorem State.succeedNoValue_rsvdWarn : (s.succeedNoValue).rsvdWarn = s.rsvdWarn := rfl
@[simp] theorem State.succeedNoValue_overrun : (s.succeedNoValue).overrun = s.overrun := rfl
@[simp] theorem State.succeedNoValue_cmdWord : (s.succeedNoValue).cmdWord = s.cmdWord := rfl
@[simp] theorem State.succeedNoValue_strictS : (s.succeedNoValue).strictS = s.strictS := rfl
@[simp] theorem State.succeedNoValue_result : (s.succeedNoValue).result = s.result := rfl
@[simp] theorem State.succeedNoValue_srcBase : (s.succeedNoValue).srcBase = s.srcBase := rfl
@[simp] theorem State.succeedNoValue_srcLen : (s.succeedNoValue).srcLen = s.srcLen := rfl
@[simp] theorem State.succeedNoValue_obu : (s.succeedNoValue).obu = s.obu := rfl
@[simp] theorem State.succeedNoValue_mem : (s.succeedNoValue).mem = s.mem := rfl
@[simp] theorem State.succeedNoValue_tainted : (s.succeedNoValue).tainted = s.tainted := rfl
@[simp] theorem State.succeedNoValue_srcScript : (s.succeedNoValue).srcScript = s.srcScript := rfl
@[simp] theorem State.succeedNoValue_draws : (s.succeedNoValue).draws = s.draws := rfl
@[simp] theorem State.succeedNoValue_inbox : (s.succeedNoValue).inbox = s.inbox := rfl
@[simp] theorem State.succeedNoValue_rdata : (s.succeedNoValue).rdata = s.rdata := rfl

/-! ### openSession -/

@[simp] theorem State.openSession_cur : (s.openSession).cur = Cursor.empty := rfl
@[simp] theorem State.openSession_ckpt : (s.openSession).ckpt = s.ckpt := rfl
@[simp] theorem State.openSession_fsm : (s.openSession).fsm = s.fsm := rfl
@[simp] theorem State.openSession_sessBase : (s.openSession).sessBase = s.srcBase := rfl
@[simp] theorem State.openSession_sessLen : (s.openSession).sessLen = s.srcLen := rfl
@[simp] theorem State.openSession_strict : (s.openSession).strict = s.strict := rfl
@[simp] theorem State.openSession_busy : (s.openSession).busy = s.busy := rfl
@[simp] theorem State.openSession_resValid : (s.openSession).resValid = s.resValid := rfl
@[simp] theorem State.openSession_err : (s.openSession).err = s.err := rfl
@[simp] theorem State.openSession_rsvdWarn : (s.openSession).rsvdWarn = s.rsvdWarn := rfl
@[simp] theorem State.openSession_overrun : (s.openSession).overrun = s.overrun := rfl
@[simp] theorem State.openSession_cmdWord : (s.openSession).cmdWord = s.cmdWord := rfl
@[simp] theorem State.openSession_strictS : (s.openSession).strictS = s.strictS := rfl
@[simp] theorem State.openSession_result : (s.openSession).result = s.result := rfl
@[simp] theorem State.openSession_srcBase : (s.openSession).srcBase = s.srcBase := rfl
@[simp] theorem State.openSession_srcLen : (s.openSession).srcLen = s.srcLen := rfl
@[simp] theorem State.openSession_obu : (s.openSession).obu = s.obu := rfl
@[simp] theorem State.openSession_mem : (s.openSession).mem = s.mem := rfl
@[simp] theorem State.openSession_tainted : (s.openSession).tainted = [] := rfl
@[simp] theorem State.openSession_srcScript : (s.openSession).srcScript = s.srcScript := rfl
@[simp] theorem State.openSession_draws : (s.openSession).draws = s.draws := rfl
@[simp] theorem State.openSession_inbox : (s.openSession).inbox = s.inbox := rfl
@[simp] theorem State.openSession_rdata : (s.openSession).rdata = s.rdata := rfl

/-! ### writeObu -/

@[simp] theorem State.writeObu_cur (o : ObuRegs) (w : Bool) : (s.writeObu o w).cur = s.cur := rfl
@[simp] theorem State.writeObu_ckpt (o : ObuRegs) (w : Bool) : (s.writeObu o w).ckpt = s.ckpt := rfl
@[simp] theorem State.writeObu_fsm (o : ObuRegs) (w : Bool) : (s.writeObu o w).fsm = s.fsm := rfl
@[simp] theorem State.writeObu_sessBase (o : ObuRegs) (w : Bool) : (s.writeObu o w).sessBase = s.sessBase := rfl
@[simp] theorem State.writeObu_sessLen (o : ObuRegs) (w : Bool) : (s.writeObu o w).sessLen = s.sessLen := rfl
@[simp] theorem State.writeObu_strict (o : ObuRegs) (w : Bool) : (s.writeObu o w).strict = s.strict := rfl
@[simp] theorem State.writeObu_busy (o : ObuRegs) (w : Bool) : (s.writeObu o w).busy = s.busy := rfl
@[simp] theorem State.writeObu_resValid (o : ObuRegs) (w : Bool) : (s.writeObu o w).resValid = s.resValid := rfl
@[simp] theorem State.writeObu_err (o : ObuRegs) (w : Bool) : (s.writeObu o w).err = s.err := rfl
@[simp] theorem State.writeObu_rsvdWarn (o : ObuRegs) (w : Bool) : (s.writeObu o w).rsvdWarn = (s.rsvdWarn || w) := rfl
@[simp] theorem State.writeObu_overrun (o : ObuRegs) (w : Bool) : (s.writeObu o w).overrun = s.overrun := rfl
@[simp] theorem State.writeObu_cmdWord (o : ObuRegs) (w : Bool) : (s.writeObu o w).cmdWord = s.cmdWord := rfl
@[simp] theorem State.writeObu_strictS (o : ObuRegs) (w : Bool) : (s.writeObu o w).strictS = s.strictS := rfl
@[simp] theorem State.writeObu_result (o : ObuRegs) (w : Bool) : (s.writeObu o w).result = s.result := rfl
@[simp] theorem State.writeObu_srcBase (o : ObuRegs) (w : Bool) : (s.writeObu o w).srcBase = s.srcBase := rfl
@[simp] theorem State.writeObu_srcLen (o : ObuRegs) (w : Bool) : (s.writeObu o w).srcLen = s.srcLen := rfl
@[simp] theorem State.writeObu_obu (o : ObuRegs) (w : Bool) : (s.writeObu o w).obu = o := rfl
@[simp] theorem State.writeObu_mem (o : ObuRegs) (w : Bool) : (s.writeObu o w).mem = s.mem := rfl
@[simp] theorem State.writeObu_tainted (o : ObuRegs) (w : Bool) : (s.writeObu o w).tainted = s.tainted := rfl
@[simp] theorem State.writeObu_srcScript (o : ObuRegs) (w : Bool) : (s.writeObu o w).srcScript = s.srcScript := rfl
@[simp] theorem State.writeObu_draws (o : ObuRegs) (w : Bool) : (s.writeObu o w).draws = s.draws := rfl
@[simp] theorem State.writeObu_inbox (o : ObuRegs) (w : Bool) : (s.writeObu o w).inbox = s.inbox := rfl
@[simp] theorem State.writeObu_rdata (o : ObuRegs) (w : Bool) : (s.writeObu o w).rdata = s.rdata := rfl

/-! ### clearSticky -/

@[simp] theorem State.clearSticky_cur (v : Word) : (s.clearSticky v).cur = s.cur := rfl
@[simp] theorem State.clearSticky_ckpt (v : Word) : (s.clearSticky v).ckpt = s.ckpt := rfl
@[simp] theorem State.clearSticky_fsm (v : Word) : (s.clearSticky v).fsm = s.fsm := rfl
@[simp] theorem State.clearSticky_sessBase (v : Word) : (s.clearSticky v).sessBase = s.sessBase := rfl
@[simp] theorem State.clearSticky_sessLen (v : Word) : (s.clearSticky v).sessLen = s.sessLen := rfl
@[simp] theorem State.clearSticky_strict (v : Word) : (s.clearSticky v).strict = s.strict := rfl
@[simp] theorem State.clearSticky_busy (v : Word) : (s.clearSticky v).busy = s.busy := rfl
@[simp] theorem State.clearSticky_resValid (v : Word) : (s.clearSticky v).resValid = s.resValid := rfl
@[simp] theorem State.clearSticky_err (v : Word) : (s.clearSticky v).err = s.err := rfl
@[simp] theorem State.clearSticky_rsvdWarn (v : Word) : (s.clearSticky v).rsvdWarn = (s.rsvdWarn && !v.getLsbD 9) := rfl
@[simp] theorem State.clearSticky_overrun (v : Word) : (s.clearSticky v).overrun = (s.overrun && !v.getLsbD 10) := rfl
@[simp] theorem State.clearSticky_cmdWord (v : Word) : (s.clearSticky v).cmdWord = s.cmdWord := rfl
@[simp] theorem State.clearSticky_strictS (v : Word) : (s.clearSticky v).strictS = s.strictS := rfl
@[simp] theorem State.clearSticky_result (v : Word) : (s.clearSticky v).result = s.result := rfl
@[simp] theorem State.clearSticky_srcBase (v : Word) : (s.clearSticky v).srcBase = s.srcBase := rfl
@[simp] theorem State.clearSticky_srcLen (v : Word) : (s.clearSticky v).srcLen = s.srcLen := rfl
@[simp] theorem State.clearSticky_obu (v : Word) : (s.clearSticky v).obu = s.obu := rfl
@[simp] theorem State.clearSticky_mem (v : Word) : (s.clearSticky v).mem = s.mem := rfl
@[simp] theorem State.clearSticky_tainted (v : Word) : (s.clearSticky v).tainted = s.tainted := rfl
@[simp] theorem State.clearSticky_srcScript (v : Word) : (s.clearSticky v).srcScript = s.srcScript := rfl
@[simp] theorem State.clearSticky_draws (v : Word) : (s.clearSticky v).draws = s.draws := rfl
@[simp] theorem State.clearSticky_inbox (v : Word) : (s.clearSticky v).inbox = s.inbox := rfl
@[simp] theorem State.clearSticky_rdata (v : Word) : (s.clearSticky v).rdata = s.rdata := rfl

/-! ### setOverrun -/

@[simp] theorem State.setOverrun_cur : (s.setOverrun).cur = s.cur := rfl
@[simp] theorem State.setOverrun_ckpt : (s.setOverrun).ckpt = s.ckpt := rfl
@[simp] theorem State.setOverrun_fsm : (s.setOverrun).fsm = s.fsm := rfl
@[simp] theorem State.setOverrun_sessBase : (s.setOverrun).sessBase = s.sessBase := rfl
@[simp] theorem State.setOverrun_sessLen : (s.setOverrun).sessLen = s.sessLen := rfl
@[simp] theorem State.setOverrun_strict : (s.setOverrun).strict = s.strict := rfl
@[simp] theorem State.setOverrun_busy : (s.setOverrun).busy = s.busy := rfl
@[simp] theorem State.setOverrun_resValid : (s.setOverrun).resValid = s.resValid := rfl
@[simp] theorem State.setOverrun_err : (s.setOverrun).err = s.err := rfl
@[simp] theorem State.setOverrun_rsvdWarn : (s.setOverrun).rsvdWarn = s.rsvdWarn := rfl
@[simp] theorem State.setOverrun_overrun : (s.setOverrun).overrun = true := rfl
@[simp] theorem State.setOverrun_cmdWord : (s.setOverrun).cmdWord = s.cmdWord := rfl
@[simp] theorem State.setOverrun_strictS : (s.setOverrun).strictS = s.strictS := rfl
@[simp] theorem State.setOverrun_result : (s.setOverrun).result = s.result := rfl
@[simp] theorem State.setOverrun_srcBase : (s.setOverrun).srcBase = s.srcBase := rfl
@[simp] theorem State.setOverrun_srcLen : (s.setOverrun).srcLen = s.srcLen := rfl
@[simp] theorem State.setOverrun_obu : (s.setOverrun).obu = s.obu := rfl
@[simp] theorem State.setOverrun_mem : (s.setOverrun).mem = s.mem := rfl
@[simp] theorem State.setOverrun_tainted : (s.setOverrun).tainted = s.tainted := rfl
@[simp] theorem State.setOverrun_srcScript : (s.setOverrun).srcScript = s.srcScript := rfl
@[simp] theorem State.setOverrun_draws : (s.setOverrun).draws = s.draws := rfl
@[simp] theorem State.setOverrun_inbox : (s.setOverrun).inbox = s.inbox := rfl
@[simp] theorem State.setOverrun_rdata : (s.setOverrun).rdata = s.rdata := rfl

/-! ### issue -/

@[simp] theorem State.issue_cur (w : Word) : (s.issue w).cur = s.cur := rfl
@[simp] theorem State.issue_ckpt (w : Word) : (s.issue w).ckpt = s.ckpt := rfl
@[simp] theorem State.issue_fsm (w : Word) : (s.issue w).fsm = s.fsm := rfl
@[simp] theorem State.issue_sessBase (w : Word) : (s.issue w).sessBase = s.sessBase := rfl
@[simp] theorem State.issue_sessLen (w : Word) : (s.issue w).sessLen = s.sessLen := rfl
@[simp] theorem State.issue_strict (w : Word) : (s.issue w).strict = s.strict := rfl
@[simp] theorem State.issue_busy (w : Word) : (s.issue w).busy = true := rfl
@[simp] theorem State.issue_resValid (w : Word) : (s.issue w).resValid = s.resValid := rfl
@[simp] theorem State.issue_err (w : Word) : (s.issue w).err = s.err := rfl
@[simp] theorem State.issue_rsvdWarn (w : Word) : (s.issue w).rsvdWarn = s.rsvdWarn := rfl
@[simp] theorem State.issue_overrun (w : Word) : (s.issue w).overrun = s.overrun := rfl
@[simp] theorem State.issue_cmdWord (w : Word) : (s.issue w).cmdWord = w := rfl
@[simp] theorem State.issue_strictS (w : Word) : (s.issue w).strictS = s.strict := rfl
@[simp] theorem State.issue_result (w : Word) : (s.issue w).result = s.result := rfl
@[simp] theorem State.issue_srcBase (w : Word) : (s.issue w).srcBase = s.srcBase := rfl
@[simp] theorem State.issue_srcLen (w : Word) : (s.issue w).srcLen = s.srcLen := rfl
@[simp] theorem State.issue_obu (w : Word) : (s.issue w).obu = s.obu := rfl
@[simp] theorem State.issue_mem (w : Word) : (s.issue w).mem = s.mem := rfl
@[simp] theorem State.issue_tainted (w : Word) : (s.issue w).tainted = s.tainted := rfl
@[simp] theorem State.issue_srcScript (w : Word) : (s.issue w).srcScript = s.srcScript := rfl
@[simp] theorem State.issue_draws (w : Word) : (s.issue w).draws = s.draws := rfl
@[simp] theorem State.issue_inbox (w : Word) : (s.issue w).inbox = s.inbox := rfl
@[simp] theorem State.issue_rdata (w : Word) : (s.issue w).rdata = s.rdata := rfl

/-! ### setStrict -/

@[simp] theorem State.setStrict_cur (v : Word) : (s.setStrict v).cur = s.cur := rfl
@[simp] theorem State.setStrict_ckpt (v : Word) : (s.setStrict v).ckpt = s.ckpt := rfl
@[simp] theorem State.setStrict_fsm (v : Word) : (s.setStrict v).fsm = s.fsm := rfl
@[simp] theorem State.setStrict_sessBase (v : Word) : (s.setStrict v).sessBase = s.sessBase := rfl
@[simp] theorem State.setStrict_sessLen (v : Word) : (s.setStrict v).sessLen = s.sessLen := rfl
@[simp] theorem State.setStrict_strict (v : Word) : (s.setStrict v).strict = v.getLsbD 0 := rfl
@[simp] theorem State.setStrict_busy (v : Word) : (s.setStrict v).busy = s.busy := rfl
@[simp] theorem State.setStrict_resValid (v : Word) : (s.setStrict v).resValid = s.resValid := rfl
@[simp] theorem State.setStrict_err (v : Word) : (s.setStrict v).err = s.err := rfl
@[simp] theorem State.setStrict_rsvdWarn (v : Word) : (s.setStrict v).rsvdWarn = s.rsvdWarn := rfl
@[simp] theorem State.setStrict_overrun (v : Word) : (s.setStrict v).overrun = s.overrun := rfl
@[simp] theorem State.setStrict_cmdWord (v : Word) : (s.setStrict v).cmdWord = s.cmdWord := rfl
@[simp] theorem State.setStrict_strictS (v : Word) : (s.setStrict v).strictS = s.strictS := rfl
@[simp] theorem State.setStrict_result (v : Word) : (s.setStrict v).result = s.result := rfl
@[simp] theorem State.setStrict_srcBase (v : Word) : (s.setStrict v).srcBase = s.srcBase := rfl
@[simp] theorem State.setStrict_srcLen (v : Word) : (s.setStrict v).srcLen = s.srcLen := rfl
@[simp] theorem State.setStrict_obu (v : Word) : (s.setStrict v).obu = s.obu := rfl
@[simp] theorem State.setStrict_mem (v : Word) : (s.setStrict v).mem = s.mem := rfl
@[simp] theorem State.setStrict_tainted (v : Word) : (s.setStrict v).tainted = s.tainted := rfl
@[simp] theorem State.setStrict_srcScript (v : Word) : (s.setStrict v).srcScript = s.srcScript := rfl
@[simp] theorem State.setStrict_draws (v : Word) : (s.setStrict v).draws = s.draws := rfl
@[simp] theorem State.setStrict_inbox (v : Word) : (s.setStrict v).inbox = s.inbox := rfl
@[simp] theorem State.setStrict_rdata (v : Word) : (s.setStrict v).rdata = s.rdata := rfl

/-! ### setSrcBase -/

@[simp] theorem State.setSrcBase_cur (v : Word) : (s.setSrcBase v).cur = s.cur := rfl
@[simp] theorem State.setSrcBase_ckpt (v : Word) : (s.setSrcBase v).ckpt = s.ckpt := rfl
@[simp] theorem State.setSrcBase_fsm (v : Word) : (s.setSrcBase v).fsm = s.fsm := rfl
@[simp] theorem State.setSrcBase_sessBase (v : Word) : (s.setSrcBase v).sessBase = s.sessBase := rfl
@[simp] theorem State.setSrcBase_sessLen (v : Word) : (s.setSrcBase v).sessLen = s.sessLen := rfl
@[simp] theorem State.setSrcBase_strict (v : Word) : (s.setSrcBase v).strict = s.strict := rfl
@[simp] theorem State.setSrcBase_busy (v : Word) : (s.setSrcBase v).busy = s.busy := rfl
@[simp] theorem State.setSrcBase_resValid (v : Word) : (s.setSrcBase v).resValid = s.resValid := rfl
@[simp] theorem State.setSrcBase_err (v : Word) : (s.setSrcBase v).err = s.err := rfl
@[simp] theorem State.setSrcBase_rsvdWarn (v : Word) : (s.setSrcBase v).rsvdWarn = s.rsvdWarn := rfl
@[simp] theorem State.setSrcBase_overrun (v : Word) : (s.setSrcBase v).overrun = s.overrun := rfl
@[simp] theorem State.setSrcBase_cmdWord (v : Word) : (s.setSrcBase v).cmdWord = s.cmdWord := rfl
@[simp] theorem State.setSrcBase_strictS (v : Word) : (s.setSrcBase v).strictS = s.strictS := rfl
@[simp] theorem State.setSrcBase_result (v : Word) : (s.setSrcBase v).result = s.result := rfl
@[simp] theorem State.setSrcBase_srcBase (v : Word) : (s.setSrcBase v).srcBase = v.setWidth 32 := rfl
@[simp] theorem State.setSrcBase_srcLen (v : Word) : (s.setSrcBase v).srcLen = s.srcLen := rfl
@[simp] theorem State.setSrcBase_obu (v : Word) : (s.setSrcBase v).obu = s.obu := rfl
@[simp] theorem State.setSrcBase_mem (v : Word) : (s.setSrcBase v).mem = s.mem := rfl
@[simp] theorem State.setSrcBase_tainted (v : Word) : (s.setSrcBase v).tainted = s.tainted := rfl
@[simp] theorem State.setSrcBase_srcScript (v : Word) : (s.setSrcBase v).srcScript = s.srcScript := rfl
@[simp] theorem State.setSrcBase_draws (v : Word) : (s.setSrcBase v).draws = s.draws := rfl
@[simp] theorem State.setSrcBase_inbox (v : Word) : (s.setSrcBase v).inbox = s.inbox := rfl
@[simp] theorem State.setSrcBase_rdata (v : Word) : (s.setSrcBase v).rdata = s.rdata := rfl

/-! ### setSrcLen -/

@[simp] theorem State.setSrcLen_cur (v : Word) : (s.setSrcLen v).cur = s.cur := rfl
@[simp] theorem State.setSrcLen_ckpt (v : Word) : (s.setSrcLen v).ckpt = s.ckpt := rfl
@[simp] theorem State.setSrcLen_fsm (v : Word) : (s.setSrcLen v).fsm = s.fsm := rfl
@[simp] theorem State.setSrcLen_sessBase (v : Word) : (s.setSrcLen v).sessBase = s.sessBase := rfl
@[simp] theorem State.setSrcLen_sessLen (v : Word) : (s.setSrcLen v).sessLen = s.sessLen := rfl
@[simp] theorem State.setSrcLen_strict (v : Word) : (s.setSrcLen v).strict = s.strict := rfl
@[simp] theorem State.setSrcLen_busy (v : Word) : (s.setSrcLen v).busy = s.busy := rfl
@[simp] theorem State.setSrcLen_resValid (v : Word) : (s.setSrcLen v).resValid = s.resValid := rfl
@[simp] theorem State.setSrcLen_err (v : Word) : (s.setSrcLen v).err = s.err := rfl
@[simp] theorem State.setSrcLen_rsvdWarn (v : Word) : (s.setSrcLen v).rsvdWarn = s.rsvdWarn := rfl
@[simp] theorem State.setSrcLen_overrun (v : Word) : (s.setSrcLen v).overrun = s.overrun := rfl
@[simp] theorem State.setSrcLen_cmdWord (v : Word) : (s.setSrcLen v).cmdWord = s.cmdWord := rfl
@[simp] theorem State.setSrcLen_strictS (v : Word) : (s.setSrcLen v).strictS = s.strictS := rfl
@[simp] theorem State.setSrcLen_result (v : Word) : (s.setSrcLen v).result = s.result := rfl
@[simp] theorem State.setSrcLen_srcBase (v : Word) : (s.setSrcLen v).srcBase = s.srcBase := rfl
@[simp] theorem State.setSrcLen_srcLen (v : Word) : (s.setSrcLen v).srcLen = v.setWidth 32 := rfl
@[simp] theorem State.setSrcLen_obu (v : Word) : (s.setSrcLen v).obu = s.obu := rfl
@[simp] theorem State.setSrcLen_mem (v : Word) : (s.setSrcLen v).mem = s.mem := rfl
@[simp] theorem State.setSrcLen_tainted (v : Word) : (s.setSrcLen v).tainted = s.tainted := rfl
@[simp] theorem State.setSrcLen_srcScript (v : Word) : (s.setSrcLen v).srcScript = s.srcScript := rfl
@[simp] theorem State.setSrcLen_draws (v : Word) : (s.setSrcLen v).draws = s.draws := rfl
@[simp] theorem State.setSrcLen_inbox (v : Word) : (s.setSrcLen v).inbox = s.inbox := rfl
@[simp] theorem State.setSrcLen_rdata (v : Word) : (s.setSrcLen v).rdata = s.rdata := rfl

/-! ### setRdata -/

@[simp] theorem State.setRdata_cur (v : Word) : (s.setRdata v).cur = s.cur := rfl
@[simp] theorem State.setRdata_ckpt (v : Word) : (s.setRdata v).ckpt = s.ckpt := rfl
@[simp] theorem State.setRdata_fsm (v : Word) : (s.setRdata v).fsm = s.fsm := rfl
@[simp] theorem State.setRdata_sessBase (v : Word) : (s.setRdata v).sessBase = s.sessBase := rfl
@[simp] theorem State.setRdata_sessLen (v : Word) : (s.setRdata v).sessLen = s.sessLen := rfl
@[simp] theorem State.setRdata_strict (v : Word) : (s.setRdata v).strict = s.strict := rfl
@[simp] theorem State.setRdata_busy (v : Word) : (s.setRdata v).busy = s.busy := rfl
@[simp] theorem State.setRdata_resValid (v : Word) : (s.setRdata v).resValid = s.resValid := rfl
@[simp] theorem State.setRdata_err (v : Word) : (s.setRdata v).err = s.err := rfl
@[simp] theorem State.setRdata_rsvdWarn (v : Word) : (s.setRdata v).rsvdWarn = s.rsvdWarn := rfl
@[simp] theorem State.setRdata_overrun (v : Word) : (s.setRdata v).overrun = s.overrun := rfl
@[simp] theorem State.setRdata_cmdWord (v : Word) : (s.setRdata v).cmdWord = s.cmdWord := rfl
@[simp] theorem State.setRdata_strictS (v : Word) : (s.setRdata v).strictS = s.strictS := rfl
@[simp] theorem State.setRdata_result (v : Word) : (s.setRdata v).result = s.result := rfl
@[simp] theorem State.setRdata_srcBase (v : Word) : (s.setRdata v).srcBase = s.srcBase := rfl
@[simp] theorem State.setRdata_srcLen (v : Word) : (s.setRdata v).srcLen = s.srcLen := rfl
@[simp] theorem State.setRdata_obu (v : Word) : (s.setRdata v).obu = s.obu := rfl
@[simp] theorem State.setRdata_mem (v : Word) : (s.setRdata v).mem = s.mem := rfl
@[simp] theorem State.setRdata_tainted (v : Word) : (s.setRdata v).tainted = s.tainted := rfl
@[simp] theorem State.setRdata_srcScript (v : Word) : (s.setRdata v).srcScript = s.srcScript := rfl
@[simp] theorem State.setRdata_draws (v : Word) : (s.setRdata v).draws = s.draws := rfl
@[simp] theorem State.setRdata_inbox (v : Word) : (s.setRdata v).inbox = s.inbox := rfl
@[simp] theorem State.setRdata_rdata (v : Word) : (s.setRdata v).rdata = v := rfl

/-! ### nextDraw -/

@[simp] theorem State.nextDraw_cur : (s.nextDraw).cur = s.cur := rfl
@[simp] theorem State.nextDraw_ckpt : (s.nextDraw).ckpt = s.ckpt := rfl
@[simp] theorem State.nextDraw_fsm : (s.nextDraw).fsm = s.fsm := rfl
@[simp] theorem State.nextDraw_sessBase : (s.nextDraw).sessBase = s.sessBase := rfl
@[simp] theorem State.nextDraw_sessLen : (s.nextDraw).sessLen = s.sessLen := rfl
@[simp] theorem State.nextDraw_strict : (s.nextDraw).strict = s.strict := rfl
@[simp] theorem State.nextDraw_busy : (s.nextDraw).busy = s.busy := rfl
@[simp] theorem State.nextDraw_resValid : (s.nextDraw).resValid = s.resValid := rfl
@[simp] theorem State.nextDraw_err : (s.nextDraw).err = s.err := rfl
@[simp] theorem State.nextDraw_rsvdWarn : (s.nextDraw).rsvdWarn = s.rsvdWarn := rfl
@[simp] theorem State.nextDraw_overrun : (s.nextDraw).overrun = s.overrun := rfl
@[simp] theorem State.nextDraw_cmdWord : (s.nextDraw).cmdWord = s.cmdWord := rfl
@[simp] theorem State.nextDraw_strictS : (s.nextDraw).strictS = s.strictS := rfl
@[simp] theorem State.nextDraw_result : (s.nextDraw).result = s.result := rfl
@[simp] theorem State.nextDraw_srcBase : (s.nextDraw).srcBase = s.srcBase := rfl
@[simp] theorem State.nextDraw_srcLen : (s.nextDraw).srcLen = s.srcLen := rfl
@[simp] theorem State.nextDraw_obu : (s.nextDraw).obu = s.obu := rfl
@[simp] theorem State.nextDraw_mem : (s.nextDraw).mem = s.mem := rfl
@[simp] theorem State.nextDraw_tainted : (s.nextDraw).tainted = s.tainted := rfl
@[simp] theorem State.nextDraw_srcScript : (s.nextDraw).srcScript = s.srcScript := rfl
@[simp] theorem State.nextDraw_draws : (s.nextDraw).draws = s.draws + 1 := rfl
@[simp] theorem State.nextDraw_inbox : (s.nextDraw).inbox = s.inbox := rfl
@[simp] theorem State.nextDraw_rdata : (s.nextDraw).rdata = s.rdata := rfl

/-! ### srcWrite -/

@[simp] theorem State.srcWrite_cur (a : Addr) (b : Byte) : (s.srcWrite a b).cur = s.cur := rfl
@[simp] theorem State.srcWrite_ckpt (a : Addr) (b : Byte) : (s.srcWrite a b).ckpt = s.ckpt := rfl
@[simp] theorem State.srcWrite_fsm (a : Addr) (b : Byte) : (s.srcWrite a b).fsm = s.fsm := rfl
@[simp] theorem State.srcWrite_sessBase (a : Addr) (b : Byte) : (s.srcWrite a b).sessBase = s.sessBase := rfl
@[simp] theorem State.srcWrite_sessLen (a : Addr) (b : Byte) : (s.srcWrite a b).sessLen = s.sessLen := rfl
@[simp] theorem State.srcWrite_strict (a : Addr) (b : Byte) : (s.srcWrite a b).strict = s.strict := rfl
@[simp] theorem State.srcWrite_busy (a : Addr) (b : Byte) : (s.srcWrite a b).busy = s.busy := rfl
@[simp] theorem State.srcWrite_resValid (a : Addr) (b : Byte) : (s.srcWrite a b).resValid = s.resValid := rfl
@[simp] theorem State.srcWrite_err (a : Addr) (b : Byte) : (s.srcWrite a b).err = s.err := rfl
@[simp] theorem State.srcWrite_rsvdWarn (a : Addr) (b : Byte) : (s.srcWrite a b).rsvdWarn = s.rsvdWarn := rfl
@[simp] theorem State.srcWrite_overrun (a : Addr) (b : Byte) : (s.srcWrite a b).overrun = s.overrun := rfl
@[simp] theorem State.srcWrite_cmdWord (a : Addr) (b : Byte) : (s.srcWrite a b).cmdWord = s.cmdWord := rfl
@[simp] theorem State.srcWrite_strictS (a : Addr) (b : Byte) : (s.srcWrite a b).strictS = s.strictS := rfl
@[simp] theorem State.srcWrite_result (a : Addr) (b : Byte) : (s.srcWrite a b).result = s.result := rfl
@[simp] theorem State.srcWrite_srcBase (a : Addr) (b : Byte) : (s.srcWrite a b).srcBase = s.srcBase := rfl
@[simp] theorem State.srcWrite_srcLen (a : Addr) (b : Byte) : (s.srcWrite a b).srcLen = s.srcLen := rfl
@[simp] theorem State.srcWrite_obu (a : Addr) (b : Byte) : (s.srcWrite a b).obu = s.obu := rfl
@[simp] theorem State.srcWrite_mem (a : Addr) (b : Byte) : (s.srcWrite a b).mem = memWrite s.mem a.toNat b := rfl
@[simp] theorem State.srcWrite_tainted (a : Addr) (b : Byte) : (s.srcWrite a b).tainted = (if s.inWindow a.toNat then s.tainted.insert a.toNat else s.tainted) := rfl
@[simp] theorem State.srcWrite_srcScript (a : Addr) (b : Byte) : (s.srcWrite a b).srcScript = s.srcScript := rfl
@[simp] theorem State.srcWrite_draws (a : Addr) (b : Byte) : (s.srcWrite a b).draws = s.draws := rfl
@[simp] theorem State.srcWrite_inbox (a : Addr) (b : Byte) : (s.srcWrite a b).inbox = s.inbox := rfl
@[simp] theorem State.srcWrite_rdata (a : Addr) (b : Byte) : (s.srcWrite a b).rdata = s.rdata := rfl

/-! ### setInbox -/

@[simp] theorem State.setInbox_cur (l : List HostOp) : (s.setInbox l).cur = s.cur := rfl
@[simp] theorem State.setInbox_ckpt (l : List HostOp) : (s.setInbox l).ckpt = s.ckpt := rfl
@[simp] theorem State.setInbox_fsm (l : List HostOp) : (s.setInbox l).fsm = s.fsm := rfl
@[simp] theorem State.setInbox_sessBase (l : List HostOp) : (s.setInbox l).sessBase = s.sessBase := rfl
@[simp] theorem State.setInbox_sessLen (l : List HostOp) : (s.setInbox l).sessLen = s.sessLen := rfl
@[simp] theorem State.setInbox_strict (l : List HostOp) : (s.setInbox l).strict = s.strict := rfl
@[simp] theorem State.setInbox_busy (l : List HostOp) : (s.setInbox l).busy = s.busy := rfl
@[simp] theorem State.setInbox_resValid (l : List HostOp) : (s.setInbox l).resValid = s.resValid := rfl
@[simp] theorem State.setInbox_err (l : List HostOp) : (s.setInbox l).err = s.err := rfl
@[simp] theorem State.setInbox_rsvdWarn (l : List HostOp) : (s.setInbox l).rsvdWarn = s.rsvdWarn := rfl
@[simp] theorem State.setInbox_overrun (l : List HostOp) : (s.setInbox l).overrun = s.overrun := rfl
@[simp] theorem State.setInbox_cmdWord (l : List HostOp) : (s.setInbox l).cmdWord = s.cmdWord := rfl
@[simp] theorem State.setInbox_strictS (l : List HostOp) : (s.setInbox l).strictS = s.strictS := rfl
@[simp] theorem State.setInbox_result (l : List HostOp) : (s.setInbox l).result = s.result := rfl
@[simp] theorem State.setInbox_srcBase (l : List HostOp) : (s.setInbox l).srcBase = s.srcBase := rfl
@[simp] theorem State.setInbox_srcLen (l : List HostOp) : (s.setInbox l).srcLen = s.srcLen := rfl
@[simp] theorem State.setInbox_obu (l : List HostOp) : (s.setInbox l).obu = s.obu := rfl
@[simp] theorem State.setInbox_mem (l : List HostOp) : (s.setInbox l).mem = s.mem := rfl
@[simp] theorem State.setInbox_tainted (l : List HostOp) : (s.setInbox l).tainted = s.tainted := rfl
@[simp] theorem State.setInbox_srcScript (l : List HostOp) : (s.setInbox l).srcScript = s.srcScript := rfl
@[simp] theorem State.setInbox_draws (l : List HostOp) : (s.setInbox l).draws = s.draws := rfl
@[simp] theorem State.setInbox_inbox (l : List HostOp) : (s.setInbox l).inbox = l := rfl
@[simp] theorem State.setInbox_rdata (l : List HostOp) : (s.setInbox l).rdata = s.rdata := rfl

/-! ### withFetchWord -/

@[simp] theorem State.withFetchWord_cur (n w : Nat) : (s.withFetchWord n w).cur = s.cur := rfl
@[simp] theorem State.withFetchWord_ckpt (n w : Nat) : (s.withFetchWord n w).ckpt = s.ckpt := rfl
@[simp] theorem State.withFetchWord_fsm (n w : Nat) : (s.withFetchWord n w).fsm = s.fsm := rfl
@[simp] theorem State.withFetchWord_sessBase (n w : Nat) : (s.withFetchWord n w).sessBase = s.sessBase := rfl
@[simp] theorem State.withFetchWord_sessLen (n w : Nat) : (s.withFetchWord n w).sessLen = s.sessLen := rfl
@[simp] theorem State.withFetchWord_strict (n w : Nat) : (s.withFetchWord n w).strict = s.strict := rfl
@[simp] theorem State.withFetchWord_busy (n w : Nat) : (s.withFetchWord n w).busy = true := rfl
@[simp] theorem State.withFetchWord_resValid (n w : Nat) : (s.withFetchWord n w).resValid = s.resValid := rfl
@[simp] theorem State.withFetchWord_err (n w : Nat) : (s.withFetchWord n w).err = s.err := rfl
@[simp] theorem State.withFetchWord_rsvdWarn (n w : Nat) : (s.withFetchWord n w).rsvdWarn = s.rsvdWarn := rfl
@[simp] theorem State.withFetchWord_overrun (n w : Nat) : (s.withFetchWord n w).overrun = s.overrun := rfl
@[simp] theorem State.withFetchWord_cmdWord (n w : Nat) : (s.withFetchWord n w).cmdWord = BitVec.ofNat 64 (w % 2 ^ n) := rfl
@[simp] theorem State.withFetchWord_strictS (n w : Nat) : (s.withFetchWord n w).strictS = s.strict := rfl
@[simp] theorem State.withFetchWord_result (n w : Nat) : (s.withFetchWord n w).result = s.result := rfl
@[simp] theorem State.withFetchWord_srcBase (n w : Nat) : (s.withFetchWord n w).srcBase = s.srcBase := rfl
@[simp] theorem State.withFetchWord_srcLen (n w : Nat) : (s.withFetchWord n w).srcLen = s.srcLen := rfl
@[simp] theorem State.withFetchWord_obu (n w : Nat) : (s.withFetchWord n w).obu = s.obu := rfl
@[simp] theorem State.withFetchWord_mem (n w : Nat) : (s.withFetchWord n w).mem = s.mem := rfl
@[simp] theorem State.withFetchWord_tainted (n w : Nat) : (s.withFetchWord n w).tainted = s.tainted := rfl
@[simp] theorem State.withFetchWord_srcScript (n w : Nat) : (s.withFetchWord n w).srcScript = s.srcScript := rfl
@[simp] theorem State.withFetchWord_draws (n w : Nat) : (s.withFetchWord n w).draws = s.draws := rfl
@[simp] theorem State.withFetchWord_inbox (n w : Nat) : (s.withFetchWord n w).inbox = .awaitDone :: s.inbox := rfl
@[simp] theorem State.withFetchWord_rdata (n w : Nat) : (s.withFetchWord n w).rdata = s.rdata := rfl

/-! ### applyReset -/

@[simp] theorem State.applyReset_cur : s.applyReset.cur = State.reset.cur := rfl
@[simp] theorem State.applyReset_ckpt : s.applyReset.ckpt = State.reset.ckpt := rfl
@[simp] theorem State.applyReset_fsm : s.applyReset.fsm = State.reset.fsm := rfl
@[simp] theorem State.applyReset_sessBase : s.applyReset.sessBase = State.reset.sessBase := rfl
@[simp] theorem State.applyReset_sessLen : s.applyReset.sessLen = State.reset.sessLen := rfl
@[simp] theorem State.applyReset_strict : s.applyReset.strict = State.reset.strict := rfl
@[simp] theorem State.applyReset_busy : s.applyReset.busy = State.reset.busy := rfl
@[simp] theorem State.applyReset_resValid : s.applyReset.resValid = State.reset.resValid := rfl
@[simp] theorem State.applyReset_err : s.applyReset.err = State.reset.err := rfl
@[simp] theorem State.applyReset_rsvdWarn : s.applyReset.rsvdWarn = State.reset.rsvdWarn := rfl
@[simp] theorem State.applyReset_overrun : s.applyReset.overrun = State.reset.overrun := rfl
@[simp] theorem State.applyReset_cmdWord : s.applyReset.cmdWord = State.reset.cmdWord := rfl
@[simp] theorem State.applyReset_strictS : s.applyReset.strictS = State.reset.strictS := rfl
@[simp] theorem State.applyReset_result : s.applyReset.result = State.reset.result := rfl
@[simp] theorem State.applyReset_srcBase : s.applyReset.srcBase = State.reset.srcBase := rfl
@[simp] theorem State.applyReset_srcLen : s.applyReset.srcLen = State.reset.srcLen := rfl
@[simp] theorem State.applyReset_obu : s.applyReset.obu = State.reset.obu := rfl
@[simp] theorem State.applyReset_mem : s.applyReset.mem = s.mem := rfl
@[simp] theorem State.applyReset_tainted : s.applyReset.tainted = State.reset.tainted := rfl
@[simp] theorem State.applyReset_srcScript : s.applyReset.srcScript = s.srcScript := rfl
@[simp] theorem State.applyReset_draws : s.applyReset.draws = s.draws := rfl
@[simp] theorem State.applyReset_inbox : s.applyReset.inbox = s.inbox := rfl
@[simp] theorem State.applyReset_rdata : s.applyReset.rdata = s.rdata := rfl

end Sys2Proof.Machine
end

