-- ==== Sys2Proof/Laws/Ops.lean ====
section
/-! SUPPORT. What each shared operation can do: binding, source reads, refill, `take`, and the command cycle. -/

namespace Sys2Proof.Machine

/-! ### Binding -/

@[simp] theorem Res.ok_bind {α β : Type} (v : α) (s : State) (k : α → State → Res β) : (Res.ok v s).bind k = k v s := rfl

@[simp] theorem Res.raise_bind {α β : Type} (e : ErrCode) (s : State) (k : α → State → Res β) :
    (Res.raise e s : Res α).bind k = .raise e s := rfl

@[simp] theorem Res.stuck_bind {α β : Type} (k : α → State → Res β) : (Res.stuck : Res α).bind k = .stuck := rfl

theorem Res.bind_eq_ok {α β : Type} {r : Res α} {k : α → State → Res β} {b : β} {t : State} :
    r.bind k = .ok b t ↔ ∃ a s, r = .ok a s ∧ k a s = .ok b t := by
  cases r <;> simp

theorem Res.bind_eq_raise {α β : Type} {r : Res α} {k : α → State → Res β} {e : ErrCode} {t : State} :
    r.bind k = .raise e t ↔ r = .raise e t ∨ ∃ a s, r = .ok a s ∧ k a s = .raise e t := by
  cases r <;> simp

theorem Res.bind_eq_stuck {α β : Type} {r : Res α} {k : α → State → Res β} :
    r.bind k = .stuck ↔ r = .stuck ∨ ∃ a s, r = .ok a s ∧ k a s = .stuck := by
  cases r <;> simp

theorem Res.bind_assoc {α β γ : Type} (r : Res α) (k : α → State → Res β) (l : β → State → Res γ) :
    (r.bind k).bind l = r.bind fun a s => (k a s).bind l := by
  cases r <;> rfl

/-! ### What a part of a body ends in -/

/-- Every answer of `r` is a value with `P`, an error with `Q`, or none at all. -/
def Res.Ends {α : Type} (P : α → State → Prop) (Q : ErrCode → State → Prop) : Res α → Prop
  | .ok v s => P v s
  | .raise e s => Q e s
  | .stuck => True

theorem Res.Ends.bind {α β : Type} {P : α → State → Prop} {P' : β → State → Prop} {Q : ErrCode → State → Prop}
    {r : Res α} {k : α → State → Res β} (h : r.Ends P Q) (hk : ∀ v s, P v s → (k v s).Ends P' Q) :
    (r.bind k).Ends P' Q := by
  cases r with
  | ok v s => exact hk v s h
  | raise e s => exact h
  | stuck => trivial

theorem Res.Ends.mono {α : Type} {P P' : α → State → Prop} {Q Q' : ErrCode → State → Prop} {r : Res α}
    (h : r.Ends P Q) (hP : ∀ v s, P v s → P' v s) (hQ : ∀ e s, Q e s → Q' e s) : r.Ends P' Q' := by
  cases r with
  | ok v s => exact hP v s h
  | raise e s => exact hQ e s h
  | stuck => trivial

/-- Reading the stream changes only the cursor, the refill machine and the source's used-up answers. -/
def Reads (s t : State) : Prop :=
  t = { s with cur := t.cur, fsm := t.fsm, srcScript := t.srcScript, draws := t.draws }

theorem Reads.refl (s : State) : Reads s s := rfl

theorem Reads.trans {s t u : State} (h : Reads s t) (h' : Reads t u) : Reads s u := by
  unfold Reads at *
  rw [h'] at *
  rw [h]

/-- The errors a read can raise (60_exceptions.md R160). -/
def ReadError (e : ErrCode) : Prop := e = .endOfStream ∨ e = .sourceError

/-- What reading from `s` raises: one of the two read errors, in a state reached by reading. -/
def ReadFails (s : State) (e : ErrCode) (t : State) : Prop := Reads s t ∧ ReadError e

theorem ReadFails.of_reads {s t : State} (h : Reads s t) {e : ErrCode} {u : State} (h' : ReadFails t e u) :
    ReadFails s e u := ⟨h.trans h'.1, h'.2⟩

/-! ### Source reads and refill -/

/-- A `SrcRead` (20_memory.md R51): the byte, a SourceError, or no answer; one draw is used up. -/
theorem srcRead_cases (s : State) :
    (s.answerAt 0 = .data ∧ srcRead s = .ok s.srcByte s.nextAnswer) ∨
      (s.answerAt 0 = .err ∧ srcRead s = .raise .sourceError s.nextAnswer) ∨
      (s.answerAt 0 = .never ∧ srcRead s = .stuck) := by
  unfold srcRead
  cases h : s.answerAt 0 <;> simp

/-- The answers after one is used up are the later ones. -/
@[simp] theorem State.answerAt_nextAnswer (s : State) (k : Nat) : s.nextAnswer.answerAt k = s.answerAt (k + 1) := by
  unfold State.answerAt
  simp [Nat.add_assoc, Nat.add_comm 1 k]

theorem fillFrom_ends (k j : Nat) (s : State) :
    (fillFrom k j s).Ends (fun _ t => Reads s t ∧ t.fsm = .idle) (ReadFails s) := by
  induction k generalizing j s with
  | zero => exact ⟨rfl, rfl⟩
  | succ k ih =>
    unfold fillFrom
    split
    · exact ⟨rfl, rfl⟩
    · rcases srcRead_cases (s.setFsm (.fill (Fin.ofNat 4 j))) with ⟨-, h⟩ | ⟨-, h⟩ | ⟨-, h⟩ <;> rw [h]
      · refine (ih (j + 1) _).mono (fun _ t ht => ⟨?_, ht.2⟩) fun e t ht => ⟨?_, ht.2⟩ <;>
          exact Reads.trans (by exact rfl) ht.1
      · exact ⟨rfl, .inr rfl⟩
      · trivial

/-- A refill reads the source, and ends IDLE when it raises nothing (20_memory.md R54). -/
theorem refill_ends (s : State) : (refill s).Ends (fun _ t => Reads s t ∧ t.fsm = .idle) (ReadFails s) :=
  (fillFrom_ends 4 0 _).mono (fun _ _ h => ⟨Reads.trans (by exact rfl) h.1, h.2⟩) fun _ _ h => ⟨Reads.trans (by exact rfl) h.1, h.2⟩

/-! ### take -/

theorem Cursor.top_lt (c : Cursor) {n : Nat} (h : n ≤ 32) : c.top n < 2 ^ n := by
  unfold Cursor.top
  rw [Nat.shiftRight_eq_div_pow, Nat.div_lt_iff_lt_mul (by positivity), ← Nat.pow_add]
  have : n + (32 - n) = 32 := by omega
  rw [this]
  exact c.acc.isLt

/-- The four ways of `take` (20_memory.md R55): no bits, bits held, source exhausted, or a refill. -/
theorem take_cases (n : Nat) (s : State) :
    (n = 0 ∧ take n s = .ok 0 s) ∨
      (0 < n ∧ n ≤ s.cur.valid.toNat ∧ take n s = .ok (s.cur.top n) (s.setCur (s.cur.drop n))) ∨
      (s.cur.valid.toNat < n ∧ s.cur.exh = true ∧ take n s = .raise .endOfStream s) ∨
      (s.cur.valid.toNat < n ∧ s.cur.exh = false ∧
        take n s = (refill s).bind fun _ t =>
          if t.cur.valid.toNat < n - s.cur.valid.toNat then .raise .endOfStream t
          else .ok ((s.cur.top s.cur.valid.toNat <<< (n - s.cur.valid.toNat)) ||| t.cur.top (n - s.cur.valid.toNat))
            (t.setCur (t.cur.drop (n - s.cur.valid.toNat)))) := by
  by_cases h0 : n = 0
  · exact .inl ⟨h0, by simp [take, h0]⟩
  · by_cases hv : n ≤ s.cur.valid.toNat
    · exact .inr (.inl ⟨by omega, hv, by simp [take, h0, hv]⟩)
    · cases he : s.cur.exh
      · exact .inr (.inr (.inr ⟨by omega, rfl, by simp [take, h0, hv, he]⟩))
      · exact .inr (.inr (.inl ⟨by omega, rfl, by simp [take, h0, hv, he]⟩))

/-- `take` reads the stream, returns a value of `n` bits, keeps an IDLE refill machine IDLE, and raises nothing but
EndOfStream and SourceError. -/
theorem take_ends {n : Nat} (hn : n ≤ 32) (s : State) :
    (take n s).Ends (fun v t => v < 2 ^ n ∧ Reads s t ∧ (s.fsm = .idle → t.fsm = .idle)) (ReadFails s) := by
  rcases take_cases n s with ⟨h0, h⟩ | ⟨_, _, h⟩ | ⟨_, _, h⟩ | ⟨hv, _, h⟩ <;> rw [h]
  · exact ⟨by positivity, rfl, id⟩
  · exact ⟨s.cur.top_lt hn, rfl, id⟩
  · exact ⟨rfl, .inl rfl⟩
  · refine (refill_ends s).bind fun _ t ht => ?_
    split
    · exact ⟨ht.1, .inl rfl⟩
    · refine ⟨Nat.or_lt_two_pow ?_ ?_, ht.1.trans rfl, fun _ => ht.2⟩
      · have h1 := s.cur.top_lt (n := s.cur.valid.toNat) (by omega)
        have h2 : 2 ^ n = 2 ^ s.cur.valid.toNat * 2 ^ (n - s.cur.valid.toNat) := by
          rw [← Nat.pow_add]; congr 1; omega
        rw [Nat.shiftLeft_eq, h2]
        exact Nat.mul_lt_mul_of_pos_right h1 (by positivity)
      · exact (t.cur.top_lt (by omega)).trans_le (Nat.pow_le_pow_right (by decide) (by omega))

/-! ### The command cycle -/

/-- How a command ends (40_command_cycle.md R91 to R94). -/
theorem command_eq_next {legal : Bool} {body : State → Res (Option Word)} {s t : State} :
    command legal body s = .next t ↔
      (legal = false ∧ t = s.failWith .illegalCommand) ∨
      (legal = true ∧
        ((∃ v u, body s.checkpoint = .ok (some v) u ∧ t = u.succeed v) ∨
          (∃ u, body s.checkpoint = .ok none u ∧ t = u.succeedNoValue) ∨
          ∃ e u, body s.checkpoint = .raise e u ∧ t = u.rollback.failWith e)) := by
  unfold command
  cases legal
  · simp [illegal, eq_comm]
  · rcases h : body s.checkpoint with ⟨_ | v, u⟩ | ⟨e, u⟩ | _ <;> simp [finish, eq_comm]

/-- A command never answers a refusal, and its only fault is a source that never answers. -/
theorem command_eq_fault {legal : Bool} {body : State → Res (Option Word)} {s : State} {f : Fault} :
    command legal body s = .fault f ↔ legal = true ∧ body s.checkpoint = .stuck := by
  unfold command
  cases legal
  · simp [illegal]
  · rcases h : body s.checkpoint with ⟨_ | v, u⟩ | ⟨e, u⟩ | _ <;> simp [finish]

theorem command_not_refused {legal : Bool} {body : State → Res (Option Word)} {s : State} {r : Refusal} :
    command legal body s ≠ .refused r := by
  unfold command
  cases legal
  · simp [illegal]
  · rcases h : body s.checkpoint with ⟨_ | v, u⟩ | ⟨e, u⟩ | _ <;> simp [finish]

end Sys2Proof.Machine
end

