-- ==== Sys2Proof/Laws/Commands.lean ====
section
/-! SUPPORT. What each command's body can do: the value it returns, what it leaves alone, what it raises. -/

namespace Sys2Proof.Machine

/-! ### The loops -/

theorem uvlcRun_ends (fuel k : Nat) (s : State) (hk : k ≤ 32) :
    (uvlcRun fuel k s).Ends (fun m t => m ≤ 32 ∧ Reads s t) (ReadFails s) := by
  induction fuel generalizing k s with
  | zero => exact ⟨rfl, .inl rfl⟩
  | succ fuel ih =>
    unfold uvlcRun
    refine (take_ends (by decide) s).bind fun b t ht => ?_
    split
    · exact ⟨hk, ht.2.1⟩
    · exact (ih _ t (Nat.min_le_right _ _)).mono (fun _ _ h => ⟨h.1, ht.2.1.trans h.2⟩)
        fun _ _ h => h.of_reads ht.2.1

theorem leBytes_ends (m i v : Nat) (s : State) (hv : v < 2 ^ (8 * i)) :
    (leBytes m i v s).Ends (fun w t => w < 2 ^ (8 * (i + m)) ∧ Reads s t) (ReadFails s) := by
  induction m generalizing i v s with
  | zero => exact ⟨hv, rfl⟩
  | succ m ih =>
    unfold leBytes
    refine (take_ends (by decide) s).bind fun b t ht => ?_
    have hb : v + b <<< (8 * i) < 2 ^ (8 * (i + 1)) := by
      have h1 : b < 256 := ht.1
      have h2 : 2 ^ (8 * (i + 1)) = 256 * 2 ^ (8 * i) := by rw [Nat.mul_add, Nat.pow_add]; omega
      rw [Nat.shiftLeft_eq, h2]
      nlinarith
    have := ih (i + 1) _ t hb
    rw [Nat.add_assoc, Nat.add_comm 1 m] at this
    exact this.mono (fun _ _ h => ⟨h.1, ht.2.1.trans h.2⟩) fun _ _ h => h.of_reads ht.2.1

/-- The leb128 loop returns at most 7 bits a byte, and reads at least one byte and at most those allowed. -/
theorem lebBytes_ends (m i v : Nat) (s : State) (hv : v < 2 ^ (7 * i)) :
    (lebBytes m i v s).Ends (fun w t => w.1 < 2 ^ (7 * (i + m)) ∧ i ≤ w.2 ∧ w.2 ≤ i + m ∧ Reads s t) (ReadFails s) := by
  induction m generalizing i v s with
  | zero => exact ⟨hv, by simp, by simp, rfl⟩
  | succ m ih =>
    unfold lebBytes
    refine (take_ends (by decide) s).bind fun b t ht => ?_
    have hb : v + (b % 128) <<< (7 * i) < 2 ^ (7 * (i + 1)) := by
      have h1 : b % 128 < 128 := Nat.mod_lt _ (by decide)
      have h2 : 2 ^ (7 * (i + 1)) = 128 * 2 ^ (7 * i) := by rw [Nat.mul_add, Nat.pow_add]; omega
      rw [Nat.shiftLeft_eq, h2]
      nlinarith
    dsimp only
    split
    · refine ⟨hb.trans_le (Nat.pow_le_pow_right (by decide) (by omega)), by simp, ?_, ht.2.1⟩
      dsimp only
      omega
    · have := ih (i + 1) _ t hb
      rw [Nat.add_assoc, Nat.add_comm 1 m] at this
      exact this.mono (fun _ _ h => ⟨h.1, by omega, h.2.2.1, ht.2.1.trans h.2.2.2⟩) fun _ _ h => h.of_reads ht.2.1

/-! ### The bodies of the seven read commands -/

/-- What the body of a read command ends in: a value, the cursor moved and nothing else changed; or one of the read
errors or Misaligned. -/
def ReadBody (s : State) (r : Res (Option Word)) : Prop :=
  r.Ends (fun v t => (∃ w, v = some w) ∧ Reads s t)
    fun e t => Reads s t ∧ (ReadError e ∨ (e = .misaligned ∧ s.aligned = false))

theorem ReadBody.of_ends {α : Type} {s : State} {r : Res α} {k : α → State → Res (Option Word)}
    {P : α → State → Prop} (h : r.Ends P (ReadFails s))
    (hk : ∀ v t, P v t → (k v t).Ends (fun w u => (∃ x, w = some x) ∧ Reads s u) (ReadFails s)) :
    ReadBody s (r.bind k) :=
  (h.bind hk).mono (fun _ _ h => h) fun _ _ h => ⟨h.1, .inl h.2⟩

theorem ReadBody.onByteBoundary {s : State} {body : State → Res (Option Word)} (h : ReadBody s (body s)) :
    ReadBody s (onByteBoundary body s) := by
  unfold Machine.onByteBoundary
  split
  · exact h
  · rename_i ha
    exact ⟨rfl, .inr ⟨rfl, by simpa using ha⟩⟩

theorem bodyF_ends {n : BitVec 32} (h : legalBits n = true) (s : State) : ReadBody s (bodyF n s) := by
  rw [legalBits_iff] at h
  exact .of_ends (take_ends h.2 s) fun _ t ht => ⟨⟨_, rfl⟩, ht.2.1⟩

theorem bodyF1_ends (s : State) : ReadBody s (bodyF1 s) :=
  .of_ends (take_ends (by decide) s) fun _ t ht => ⟨⟨_, rfl⟩, ht.2.1⟩

theorem bodyUvlc_ends (s : State) : ReadBody s (bodyUvlc s) := by
  refine .of_ends (uvlcRun_ends _ 0 s (by decide)) fun k t ht => ?_
  unfold uvlcTail
  split
  · exact ⟨⟨_, rfl⟩, ht.2⟩
  · exact ((take_ends (by omega) t).mono (fun _ _ h => h) fun _ _ h => h.of_reads ht.2).bind
      fun _ u hu => ⟨⟨_, rfl⟩, ht.2.trans hu.2.1⟩

theorem bodyLe_ends (n : BitVec 32) (s : State) : ReadBody s (bodyLe n s) :=
  .onByteBoundary (.of_ends (leBytes_ends _ 0 0 s (by decide)) fun _ t ht => ⟨⟨_, rfl⟩, ht.2⟩)

theorem bodyLeb128_ends (s : State) : ReadBody s (bodyLeb128 s) :=
  .onByteBoundary (.of_ends (lebBytes_ends _ 0 0 s (by decide)) fun _ t ht => ⟨⟨_, rfl⟩, ht.2.2.2⟩)

theorem bodySu_ends {n : BitVec 32} (h : legalBits n = true) (s : State) : ReadBody s (bodySu n s) := by
  rw [legalBits_iff] at h
  exact .of_ends (take_ends h.2 s) fun _ t ht => ⟨⟨_, rfl⟩, ht.2.1⟩

/-- w − 1 is at most 31 (41_cursor_reads.md R106). -/
theorem nsWidth_le (n : BitVec 32) : nsWidth n.toNat - 1 ≤ 31 := by
  unfold nsWidth
  by_cases h : n.toNat = 0
  · simp [h]
  · have := (Nat.log2_lt h).2 n.isLt
    omega

theorem bodyNs_ends (n : BitVec 32) (s : State) : ReadBody s (bodyNs n s) := by
  refine .of_ends (take_ends (by have := nsWidth_le n; omega) s) fun v t ht => ?_
  split
  · exact ⟨⟨_, rfl⟩, ht.2.1⟩
  · exact ((take_ends (by decide) t).mono (fun _ _ h => h) fun _ _ h => h.of_reads ht.2.1).bind
      fun _ u hu => ⟨⟨_, rfl⟩, ht.2.1.trans hu.2.1⟩

/-! ### OBU_HDR -/

/-- What a part of the header parse raises: a read error, or MalformedField under the strict policy. -/
def FramerFails (s : State) (e : ErrCode) (t : State) : Prop :=
  Reads s t ∧ (ReadError e ∨ (e = .malformedField ∧ s.strictS = true))

theorem Reads.strictS_eq {s t : State} (h : Reads s t) : t.strictS = s.strictS := by rw [h]

theorem checkReserved_ends {s t : State} (h : Reads s t) (d : Bool) :
    (checkReserved d t).Ends (fun _ u => u = t ∧ (d = true → t.strictS = false)) (FramerFails s) := by
  unfold checkReserved
  cases d <;> cases hs : t.strictS <;> simp [Res.Ends, FramerFails, h, h.strictS_eq.symm, hs]

theorem readHeader_ends (s : State) :
    (readHeader s).Ends (fun h t => Reads s t ∧ (h.dirty = true → s.strictS = false)) (FramerFails s) := by
  refine ((take_ends (by decide) s).mono (fun _ _ h => h) fun _ _ h => ⟨h.1, .inl h.2⟩).bind fun b t ht => ?_
  refine (checkReserved_ends ht.2.1 _).bind fun _ u hu => ?_
  obtain ⟨rfl, hu⟩ := hu
  exact ⟨ht.2.1, fun h => ht.2.1.strictS_eq ▸ hu h⟩

theorem readExt_ends (present : Bool) (s : State) :
    (readExt present s).Ends (fun x t => Reads s t ∧ (x.dirty = true → s.strictS = false)) (FramerFails s) := by
  unfold readExt
  cases present
  · exact ⟨rfl, fun h => absurd h (by decide)⟩
  · refine ((take_ends (by decide) s).mono (fun _ _ h => h) fun _ _ h => ⟨h.1, .inl h.2⟩).bind fun b t ht => ?_
    refine (checkReserved_ends ht.2.1 _).bind fun _ u hu => ?_
    obtain ⟨rfl, hu⟩ := hu
    exact ⟨ht.2.1, fun h => ht.2.1.strictS_eq ▸ hu h⟩

theorem readSize_ends (present : Bool) (s : State) :
    (readSize present s).Ends (fun w t => w.1 < 2 ^ 56 ∧ w.2 ≤ 8 ∧ Reads s t) (FramerFails s) := by
  unfold readSize
  cases present
  · exact ⟨by decide, by decide, rfl⟩
  · refine (lebBytes_ends 8 0 0 s (by decide)).mono (fun w t h => ⟨by simpa using h.1, ?_, h.2.2.2⟩)
      fun _ _ h => ⟨h.1, .inl h.2⟩
    simpa using h.2.2.1

/-- What the body of OBU_HDR ends in: a value that is PAYLOAD_LEN, with the OBU registers written and RSVD_WARN not
cleared; or an error, nothing written. -/
theorem bodyObuHdr_ends (s : State) :
    (bodyObuHdr s).Ends
      (fun v t => v = some t.obu.payloadLen ∧ t.obu.size.toNat < 2 ^ 56 ∧ t.obu.info.hdrLen.toNat ≤ 10 ∧
        (s.rsvdWarn = true → t.rsvdWarn = true) ∧
        t = { s with cur := t.cur, fsm := t.fsm, srcScript := t.srcScript, draws := t.draws,
                     obu := t.obu, rsvdWarn := t.rsvdWarn })
      fun e t => Reads s t ∧
        (ReadError e ∨ (e = .malformedField ∧ s.strictS = true) ∨ (e = .misaligned ∧ s.aligned = false)) := by
  unfold bodyObuHdr onByteBoundary
  split
  · refine Res.Ends.mono (P := fun v t => _) (Q := FramerFails s) ?_ (fun _ _ h => h)
      fun _ _ h => ⟨h.1, h.2.imp_right .inl⟩
    refine (readHeader_ends s).bind fun h t ht => ?_
    have step {α : Type} {P : α → State → Prop} {r : Res α} {t : State} (ht : Reads s t)
        (h : r.Ends P (FramerFails t)) : r.Ends P (FramerFails s) :=
      h.mono (fun _ _ h => h) fun _ _ h => ⟨ht.trans h.1, by rw [← ht.strictS_eq]; exact h.2⟩
    refine (step ht.1 (readExt_ends h.ext t)).bind fun x u hu => ?_
    have hu' := ht.1.trans hu.1
    refine (step hu' (readSize_ends h.hasSize u)).bind fun sz w hw => ?_
    have hw' := hu'.trans hw.2.2
    have hl : 1 + h.ext.toNat + sz.2 ≤ 10 := by have := Bool.toNat_le h.ext; omega
    have hh : (BitVec.ofNat 4 (1 + h.ext.toNat + sz.2)).toNat ≤ 10 := by
      rw [BitVec.toNat_ofNat]; exact (Nat.mod_le _ _).trans hl
    have hz : (BitVec.ofNat 64 sz.1).toNat < 2 ^ 56 := by
      rw [BitVec.toNat_ofNat]; exact (Nat.mod_le _ _).trans_lt hw.1
    unfold frameObu payloadLength
    dsimp only
    have done (len : Nat) (o : ObuRegs) (d : Bool) (h1 : o.size.toNat < 2 ^ 56) (h2 : o.info.hdrLen.toNat ≤ 10)
        (h3 : o.payloadLen = BitVec.ofNat 64 len) :
        (ret len (w.writeObu o d)).Ends
          (fun v t => v = some t.obu.payloadLen ∧ t.obu.size.toNat < 2 ^ 56 ∧ t.obu.info.hdrLen.toNat ≤ 10 ∧
            (s.rsvdWarn = true → t.rsvdWarn = true) ∧
            t = { s with cur := t.cur, fsm := t.fsm, srcScript := t.srcScript, draws := t.draws,
                         obu := t.obu, rsvdWarn := t.rsvdWarn })
          (FramerFails s) := by
      refine ⟨by simp [h3], h1, h2, fun hr => ?_, ?_⟩
      · have : w.rsvdWarn = s.rsvdWarn := by rw [hw']
        simp [this, hr]
      · unfold State.writeObu
        rw [hw']
    cases h.hasSize
    · exact done _ _ _ hz hh rfl
    · simp only [if_true]
      split
      · exact ⟨hw', .inl (.inl rfl)⟩
      · exact done _ _ _ hz hh rfl
  · rename_i ha
    exact ⟨rfl, .inr (.inr ⟨rfl, by simpa using ha⟩)⟩

end Sys2Proof.Machine
end

