-- ==== Sys2Proof/Laws/Memory.lean ====
section
/-! SUPPORT. The source memory: what a read finds after a write, and that a write keeps the canonical form. -/

namespace Sys2Proof.Machine

@[simp] theorem memRead_nil (x : Nat) : memRead [] x = Memory.unlisted := rfl

@[simp] theorem memRead_cons (a : Nat) (b : Byte) (m : Memory) (x : Nat) :
    memRead ((a, b) :: m) x = if x = a then b else memRead m x := rfl

theorem Memory.wf_cons {a : Nat} {b : Byte} {m : Memory} :
    Memory.wf ((a, b) :: m) = true ↔
      (a < Config.srcSpace ∧ b ≠ Memory.unlisted ∧ ∀ c ∈ m, a < c.1) ∧ Memory.wf m = true := by
  simp only [Memory.wf, Bool.and_eq_true, decide_eq_true_eq, List.all_eq_true, and_assoc]

/-- An address below all listed ones reads as an unlisted byte. -/
theorem memRead_below {m : Memory} {x : Nat} (h : ∀ c ∈ m, x < c.1) : memRead m x = Memory.unlisted := by
  induction m with
  | nil => rfl
  | cons c m ih =>
    obtain ⟨a, b⟩ := c
    have ha : x < a := h (a, b) (by simp)
    rw [memRead_cons, if_neg (by omega)]
    exact ih fun c hc => h c (by simp [hc])

theorem memRead_memCons {m : Memory} {x : Nat} {v : Byte} (h : ∀ c ∈ m, x < c.1) (y : Nat) :
    memRead (memCons x v m) y = if y = x then v else memRead m y := by
  unfold memCons
  split
  · split
    · subst_vars; exact memRead_below h
    · rfl
  · rfl

theorem memCons_wf {m : Memory} {x : Nat} {v : Byte} (hx : x < Config.srcSpace) (h : ∀ c ∈ m, x < c.1)
    (hm : Memory.wf m = true) : Memory.wf (memCons x v m) = true := by
  unfold memCons
  split
  · exact hm
  · exact Memory.wf_cons.2 ⟨⟨hx, by assumption, h⟩, hm⟩

theorem mem_memCons {m : Memory} {x : Nat} {v : Byte} {c : Host.Cell} (h : c ∈ memCons x v m) : c.1 = x ∨ c ∈ m := by
  unfold memCons at h
  split at h
  · exact .inr h
  · rcases List.mem_cons.1 h with rfl | h
    · exact .inl rfl
    · exact .inr h

/-- Every entry of `memWrite m x v` is the written one or one of `m`. -/
theorem mem_memWrite {m : Memory} {x : Nat} {v : Byte} {c : Host.Cell} (h : c ∈ memWrite m x v) : c.1 = x ∨ c ∈ m := by
  induction m with
  | nil => exact mem_memCons h
  | cons d m ih =>
    unfold memWrite at h
    split at h
    · exact mem_memCons h
    · split at h
      · exact (mem_memCons h).imp_right (List.mem_cons_of_mem _)
      · rcases List.mem_cons.1 h with rfl | h
        · exact .inr (by simp)
        · exact (ih h).imp_right (List.mem_cons_of_mem _)

/-- A read after a write finds the written byte at its address and the old byte at any other. -/
theorem memRead_memWrite {m : Memory} (hm : Memory.wf m = true) (x : Nat) (v : Byte) (y : Nat) :
    memRead (memWrite m x v) y = if y = x then v else memRead m y := by
  induction m with
  | nil => exact memRead_memCons (by simp) y
  | cons c m ih =>
    obtain ⟨a, b⟩ := c
    obtain ⟨⟨_, _, hlt⟩, hwf⟩ := Memory.wf_cons.1 hm
    unfold memWrite
    split
    · rename_i hxa
      refine memRead_memCons (fun c hc => ?_) y
      rcases List.mem_cons.1 hc with rfl | hc
      · exact hxa
      · exact hxa.trans (hlt c hc)
    · split
      · rename_i hxa
        subst hxa
        rw [memRead_memCons hlt y]
        by_cases hy : y = x <;> simp [hy]
      · rename_i hxa
        rw [memRead_cons, memRead_cons, ih hwf]
        by_cases hy : y = x
        · simp [hy, hxa]
        · simp [hy]

/-- A write inside the source space keeps the canonical form. -/
theorem memWrite_wf {m : Memory} (hm : Memory.wf m = true) {x : Nat} (hx : x < Config.srcSpace) (v : Byte) :
    Memory.wf (memWrite m x v) = true := by
  induction m with
  | nil => exact memCons_wf hx (by simp) hm
  | cons c m ih =>
    obtain ⟨a, b⟩ := c
    obtain ⟨⟨ha, hb, hlt⟩, hwf⟩ := Memory.wf_cons.1 hm
    unfold memWrite
    split
    · rename_i hxa
      refine memCons_wf hx (fun c hc => ?_) hm
      rcases List.mem_cons.1 hc with rfl | hc
      · exact hxa
      · exact hxa.trans (hlt c hc)
    · split
      · rename_i hxa
        subst hxa
        exact memCons_wf hx hlt hwf
      · refine Memory.wf_cons.2 ⟨⟨ha, hb, fun c hc => ?_⟩, ih hwf⟩
        rcases mem_memWrite hc with h | h
        · omega
        · exact hlt c h

end Sys2Proof.Machine
end

