-- ==== Sys2Proof/Laws/PerInstr.lean ====
section
/-! SUPPORT. Statements about every command, one lemma per constructor. -/

namespace Sys2Proof.Laws.EncodeShape

/-- The fields of a command's word: OP is the command's opcode, which is 0x01 to 0x09, RSV is 0, and ARG is the
argument (30_encoding.md R70 and R71). -/
def Statement (i : Instr) : Prop :=
  opField (encode i) = opcodeOf i ∧ rsvField (encode i) = 0 ∧ argField (encode i) = argOf i ∧
    1 ≤ (opcodeOf i).toNat ∧ (opcodeOf i).toNat ≤ 9

/-- The number that three fields put together stand for. -/
theorem toNat_append (a : BitVec 32) (r : BitVec 24) (o : BitVec 8) :
    (show Word from a ++ r ++ o).toNat = a.toNat * 2 ^ 32 + r.toNat * 2 ^ 8 + o.toNat := by
  have h : (a ++ r ++ o).toNat = a.toNat * 2 ^ 32 + r.toNat * 2 ^ 8 + o.toNat := by
    rw [BitVec.toNat_append, BitVec.toNat_append, ← Nat.shiftLeft_add_eq_or_of_lt o.isLt,
      ← Nat.shiftLeft_add_eq_or_of_lt r.isLt, Nat.shiftLeft_eq, Nat.shiftLeft_eq]
    omega
  exact h

/-- The fields of a word put together from its fields. -/
theorem fields_of_append (a : BitVec 32) (r : BitVec 24) (o : BitVec 8) :
    opField (a ++ r ++ o) = o ∧ rsvField (a ++ r ++ o) = r ∧ argField (a ++ r ++ o) = a := by
  have h := toNat_append a r o
  have ho := o.isLt
  have hr := r.isLt
  have ha := a.isLt
  refine ⟨?_, ?_, ?_⟩ <;> apply BitVec.eq_of_toNat_eq
  · rw [opField, BitVec.extractLsb'_toNat, Nat.shiftRight_eq_div_pow, h]; omega
  · rw [rsvField, BitVec.extractLsb'_toNat, Nat.shiftRight_eq_div_pow, h]; omega
  · rw [argField, BitVec.extractLsb'_toNat, Nat.shiftRight_eq_div_pow, h]; omega

theorem of_opcode (i : Instr) {o : BitVec 8} (ho : opcodeOf i = o) (h : 1 ≤ o.toNat ∧ o.toNat ≤ 9) : Statement i :=
  have h' := fields_of_append (argOf i) 0 (opcodeOf i)
  ⟨h'.1, h'.2.1, h'.2.2, ho ▸ h⟩

theorem f (n : BitVec 32) : Statement (.f n) := of_opcode _ (o := 0x01) rfl (by decide)
theorem f1 : Statement .f1 := of_opcode _ (o := 0x02) rfl (by decide)
theorem uvlc : Statement .uvlc := of_opcode _ (o := 0x03) rfl (by decide)
theorem le (n : BitVec 32) : Statement (.le n) := of_opcode _ (o := 0x04) rfl (by decide)
theorem leb128 : Statement .leb128 := of_opcode _ (o := 0x05) rfl (by decide)
theorem su (n : BitVec 32) : Statement (.su n) := of_opcode _ (o := 0x06) rfl (by decide)
theorem ns (n : BitVec 32) : Statement (.ns n) := of_opcode _ (o := 0x07) rfl (by decide)
theorem obuHdr : Statement .obuHdr := of_opcode _ (o := 0x08) rfl (by decide)
theorem bind : Statement .bind := of_opcode _ (o := 0x09) rfl (by decide)

end Sys2Proof.Laws.EncodeShape
end

