-- ==== Sys2Proof/Tests/Slice0.lean ====
section
/-! SUPPORT. Tests: ill-formed terms, words written out from the encoding, the spec's own vectors one step at a time, and a witness for the hypotheses of each statement. -/

namespace Sys2Proof.Tests

open Sys2Proof.Machine

/-! ### Helpers -/

/-- What holds of the next state that an outcome answers; false if it answers none. -/
def shows (o : Host.Outcome State Fault Refusal) (p : State → Bool) : Bool :=
  match o with
  | .next t => p t
  | .fault _ => false
  | .refused _ => false

/-- The outcome is a refusal. -/
def refuses (o : Host.Outcome State Fault Refusal) (r : Refusal) : Bool :=
  match o with
  | .next _ => false
  | .fault _ => false
  | .refused r' => decide (r' = r)

/-- The outcome is a fault. -/
def faults (o : Host.Outcome State Fault Refusal) (f : Fault) : Bool :=
  match o with
  | .next _ => false
  | .fault f' => decide (f' = f)
  | .refused _ => false

/-- The bytes of a list in a source memory, from an address. -/
def place : Nat → List Byte → Memory
  | _, [] => []
  | a, b :: bs => memCons a b (place (a + 1) bs)

/-- A fresh session on the bytes of a window at 0x1000, as 95_test_vectors.md sets it up, with a source that answers the
next 16 reads. -/
def window (bs : List Byte) : State :=
  { State.reset with
    srcBase := 0x1000, srcLen := BitVec.ofNat 32 bs.length, sessBase := 0x1000, sessLen := BitVec.ofNat 32 bs.length,
    mem := place 0x1000 bs, srcScript := List.replicate 16 .data }

/-- The cursor of a state as the vectors write it: (ACC, VALID, EXH, FOFF). -/
def cursorIs (t : State) (acc : BitVec 32) (valid : BitVec 6) (exh : Bool) (foff : BitVec 32) : Bool :=
  decide (t.cur = { acc := acc, valid := valid, exh := exh, foff := foff })

/-! ### Well-formedness: one ill-formed term for each check -/

theorem test_wf_f_zero : (Instr.f 0).wellFormed = false := by decide
theorem test_wf_f_wide : (Instr.f 33).wellFormed = false := by decide
theorem test_wf_le_zero : (Instr.le 0).wellFormed = false := by decide
theorem test_wf_le_wide : (Instr.le 9).wellFormed = false := by decide
theorem test_wf_su_zero : (Instr.su 0).wellFormed = false := by decide
theorem test_wf_su_wide : (Instr.su 33).wellFormed = false := by decide
theorem test_wf_ns_zero : (Instr.ns 0).wellFormed = false := by decide
theorem test_wf_ends : (Instr.f 32).wellFormed = true ∧ (Instr.le 8).wellFormed = true ∧
    (Instr.su 1).wellFormed = true ∧ (Instr.ns 4294967295).wellFormed = true := by decide

/-! ### Decoding: words written out from 30_encoding.md R70 and R71, ARG ‖ RSV ‖ OP -/

theorem test_decode_f : decode 0b0000000000000000000000000000100000000000000000000000000000000001 = .ok (.f 8) := by decide
theorem test_decode_f1 : decode 0b0000000000000000000000000000000000000000000000000000000000000010 = .ok .f1 := by decide
theorem test_decode_uvlc : decode 0b0000000000000000000000000000000000000000000000000000000000000011 = .ok .uvlc := by decide
theorem test_decode_le : decode 0b0000000000000000000000000000001000000000000000000000000000000100 = .ok (.le 2) := by decide
theorem test_decode_leb128 : decode 0b0000000000000000000000000000000000000000000000000000000000000101 = .ok .leb128 := by decide
theorem test_decode_su : decode 0b0000000000000000000000000000010000000000000000000000000000000110 = .ok (.su 4) := by decide
theorem test_decode_ns : decode 0b1000000000000000000000000000000100000000000000000000000000000111 = .ok (.ns 0x80000001) := by decide
theorem test_decode_obuHdr : decode 0b0000000000000000000000000000000000000000000000000000000000001000 = .ok .obuHdr := by decide
theorem test_decode_bind : decode 0b0000000000000000000000000000000000000000000000000000000000001001 = .ok .bind := by decide
/-- V73 to V76. -/
theorem test_decode_rejects : decode 0x0000000000000000 = .error (.reservedOpcode 0) ∧
    decode 0x000000000000000A = .error (.reservedOpcode 0x0A) ∧
    decode 0x0000000800000101 = .error (.reservedField 1) ∧
    decode 0x0000000100000002 = .error (.unusedArgument 2 1) := by decide
theorem test_tableWord : decodeTableWord 64 0x0000000500000007 = some (.ns 5) ∧ decodeTableWord 32 1 = some (.f 0) := by decide

/-! ### The spec's vectors, one command each (95_test_vectors.md) -/

/-- V20. -/
theorem test_f : shows (exec (.f 4) (window [0xA5, 0x3C])) (fun t =>
    decide (t.result = 0xA) && cursorIs t 0x53C00000 12 true 2 && decide (statusWord t = 0x102)) = true := by decide
/-- V22, the high part from ACC and the low part from a refill. -/
theorem test_f_straddles : shows (exec (.f 10) { window [0xFF, 0, 0, 0, 0x0F] with cur := ⟨0, 2, false, 4⟩ }) (fun t =>
    decide (t.result = 0xF) && cursorIs t 0 0 true 5) = true := by decide
/-- V25. -/
theorem test_f1 : shows (exec .f1 (window [0x40])) (fun t =>
    decide (t.result = 0) && cursorIs t 0x80000000 7 true 1) = true := by decide
/-- V1. -/
theorem test_uvlc : shows (exec .uvlc (window [0x00, 0x40, 0x40])) (fun t =>
    decide (t.result = 513) && cursorIs t 0 5 true 3) = true := by decide
/-- V4: 32 zeros saturate, and the one bit is consumed. -/
theorem test_uvlc_saturates : shows (exec .uvlc (window [0, 0, 0, 0, 0x80])) (fun t =>
    decide (t.result = 0xFFFFFFFF) && cursorIs t 0 7 true 5) = true := by decide
/-- V32. -/
theorem test_le : shows (exec (.le 4) (window [0x78, 0x56, 0x34, 0x12])) (fun t =>
    decide (t.result = 0x12345678) && cursorIs t 0 0 false 4) = true := by decide
/-- V35: the byte taken before the failure is restored. -/
theorem test_le_rollback : shows (exec (.le 2) (window [0x12])) (fun t =>
    decide (t.err = .endOfStream) && cursorIs t 0 0 false 0 && decide (statusWord t = 0x010)) = true := by decide
/-- V40. -/
theorem test_leb128 : shows (exec .leb128 (window [0xE5, 0x8E, 0x26])) (fun t =>
    decide (t.result = 624485) && cursorIs t 0 0 true 3) = true := by decide
/-- V38: the eighth byte's continuation bit is ignored. -/
theorem test_leb128_eight : shows (exec .leb128 (window [0xFF, 0xFF, 0xFF, 0xFF, 0xFF, 0xFF, 0xFF, 0xFF, 1])) (fun t =>
    decide (t.result = 0x00FFFFFFFFFFFFFF) && cursorIs t 0 0 false 8) = true := by decide
/-- V43. -/
theorem test_su : shows (exec (.su 32) (window [0x80, 0, 0, 0])) (fun t =>
    decide (t.result = 0xFFFFFFFF80000000) && cursorIs t 0 0 false 4) = true := by decide
/-- V44. -/
theorem test_su_positive : shows (exec (.su 8) (window [0x7F])) (fun t => decide (t.result = 0x7F)) = true := by decide
/-- V51. -/
theorem test_ns : shows (exec (.ns 4294967295) (window [0xFF, 0xFF, 0xFF, 0xFF])) (fun t =>
    decide (t.result = 0xFFFFFFFE) && cursorIs t 0 0 false 4) = true := by decide
/-- V47. -/
theorem test_ns_short : shows (exec (.ns 3) (window [0x40])) (fun t =>
    decide (t.result = 0) && cursorIs t 0x80000000 7 true 1) = true := by decide
/-- V62: the lenient policy. -/
theorem test_obuHdr : shows (exec .obuHdr { window [0x0E, 0x31, 0x00] with strictS := false }) (fun t =>
    decide (t.result = 0) && decide (statusWord t = 0x302) && decide (t.obu.info.word = 0x648E1) &&
      decide (t.obu.payloadOff = 3) && decide (t.obu.payloadLen = 0)) = true := by decide
/-- V54. -/
theorem test_obuHdr_size : shows (exec .obuHdr (window [0x0E, 0x30, 0x0A, 0, 1, 2, 3, 4, 5, 6, 7, 8, 9])) (fun t =>
    decide (t.result = 10) && cursorIs t 0 8 false 4 && decide (t.obu.info.word = 0x608E1) &&
      decide (t.obu.size = 10) && decide (t.obu.payloadOff = 3) && decide (t.obu.payloadLen = 10)) = true := by decide
/-- V71: base + len = 2^32 exactly. -/
theorem test_bind : shows (exec .bind { State.reset with srcBase := 0xFFFFFFFF, srcLen := 1 }) (fun t =>
    decide (t.sessBase = 0xFFFFFFFF) && decide (t.sessLen = 1) && decide (statusWord t = 0)) = true := by decide
/-- V70. -/
theorem test_bind_refuses : shows (exec .bind { State.reset with srcBase := 0xFFFFFFFF, srcLen := 2 }) (fun t =>
    decide (t.sessLen = 0) && decide (statusWord t = 0x050)) = true := by decide
/-- V77: an `Err` on a look-ahead byte. -/
theorem test_sourceError : shows (exec (.f 8)
    { window [0x12, 0x00, 0x0A, 0x02, 0xC3, 0x5A] with srcScript := [.data, .data, .err] }) (fun t =>
    cursorIs t 0 0 false 0 && decide (statusWord t = 0x020)) = true := by decide
/-- 93_implementation_defined.md U13. -/
theorem test_stuck : faults (exec .f1 { window [0x40] with srcScript := [.never] }) .sourceNeverAnswers = true := by decide
/-- The step right after reset runs a word given to it: V72. -/
theorem test_fetchWord : shows (step (State.reset.withFetchWord 64 2)) (fun t => decide (statusWord t = 0x010)) = true := by decide
/-- P5, step 1: a write of CMD while BUSY = 1. -/
theorem test_overrun : shows (step { State.reset with busy := true, inbox := [.regWrite 0x10 1, .awaitDone] }) (fun t =>
    decide (t.overrun = true) && decide (t.cmdWord = 0) && decide (t.inbox = [.awaitDone])) = true := by decide
/-- P3, step 9. -/
theorem test_clearSticky : shows (step { State.reset with rsvdWarn := true, overrun := true, inbox := [.regWrite 0x08 0x200] })
    (fun t => decide (statusWord t = 0x400)) = true := by decide

/-! ### Witnesses: a concrete state and operands that meet all hypotheses of each clause of a statement -/

/-- A state in which the block holds a command word and moves next. -/
def latched (w : Word) (s : State) : State := { s with busy := true, cmdWord := w }

/-- A state in which an idle block has the host act. -/
def hostActs (ops : List HostOp) : State := { State.reset with inbox := ops }

/-- A state in which the host acts while the block is busy. -/
def hostActsBusy (ops : List HostOp) : State := { State.reset with busy := true, inbox := ops }

/-- A source that answers two bytes and then `Err`. -/
def twoThen (a : SrcAnswer) (s : State) : State := { s with srcScript := [.data, .data, a] }

/-- The hypotheses of `SourceErrFails i s` for the third read. -/
def errsAtThird (i : Instr) (s : State) : Bool :=
  decide (s.FirstOddAnswer 2 .err) && shows (exec i s.allAnswered) (fun t => decide (2 < s.readsTo t))

/-- The hypotheses of `BadWordsFail op bad s`, by a word with RSV = 1 and by one whose ARG is bad. -/
def badWords (op : BitVec 8) (rsv arg : Word) : Bool :=
  decide (opField (fetch (latched rsv State.reset)) = op) && decide (rsvField (fetch (latched rsv State.reset)) ≠ 0) &&
    decide (opField (fetch (latched arg State.reset)) = op) && decide (rsvField (fetch (latched arg State.reset)) = 0)

/-- A window of five zero bytes with a one bit at the end. -/
def zeros33 : State := window [0, 0, 0, 0, 0x80]

theorem witness_IllegalWordsFailAndChangeNothing :
    shows (runLatched (latched 0x0A State.reset)) (fun t => decide (t.err = .illegalCommand)) = true ∧
    shows (runLatched (latched 0x0000002000000001 State.reset)) (fun t => decide (t.err ≠ .illegalCommand)) = true ∧
    shows (runLatched (latched 0x0000002100000001 State.reset)) (fun t => decide (t.err = .illegalCommand)) = true := by
  decide

theorem witness_StepExecutesTheLatchedCommand :
    (blockTurn (latched 2 State.reset) = true ∧ decode (fetch (latched 2 State.reset)) = .ok .f1) ∧
    (blockTurn (latched 0 State.reset) = true ∧
      decode (fetch (latched 0 State.reset)) = .error (.reservedOpcode 0)) ∧
    (blockTurn State.reset = false ∧ State.reset.inbox = []) ∧
    (blockTurn (hostActsBusy [.regRead 8]) = false ∧ (hostActsBusy [.regRead 8]).inbox = [.regRead 8]) ∧
    (hostActsBusy [.awaitDone]).inbox = .awaitDone :: [] := by decide

theorem witness_CmdWriteIssuesTheCommand :
    (hostActs [.regWrite 0x10 2]).busy = false ∧ (hostActs [.regWrite 0x10 2]).inbox = .regWrite 0x10 2 :: [] ∧
    shows (exec .f1 (window [0x40])) (fun _ => true) = true ∧
    (hostActsBusy [.regWrite 0x10 2]).busy = true ∧
    shows (step (hostActsBusy [.regWrite 0x10 2])) (fun _ => true) = true := by decide

theorem witness_BusyWritesSetOverrunOnly :
    (hostActsBusy [.regWrite 0x78 1]).busy = true ∧ (0x78 % 8 = 0 ∧ 0x78 < 0x80) ∧
    (hostActsBusy [.regWrite 0x78 1]).inbox = .regWrite 0x78 1 :: [] ∧
    (∀ off ∈ [0x00, 0x08, 0x10, 0x18, 0x20, 0x28, 0x48, 0x50, 0x58, 0x60, 0x68, 0x78],
      off % 8 = 0 ∧ off < 0x80 ∧ (hostActsBusy [.regRead off]).inbox = .regRead off :: []) := by decide

theorem witness_StatusAndCtrlReadTheirFields :
    (hostActs [.regRead 0x00]).busy = false ∧ (hostActs [.regRead 0x00]).inbox = .regRead 0x00 :: [] ∧
    (hostActs [.regRead 0x08]).busy = false ∧ (hostActs [.regRead 0x08]).inbox = .regRead 0x08 :: [] := by decide

theorem witness_CursorRegistersReadTheCursor :
    ∀ x ∈ [(0x10, 0), (0x18, 7), (0x20, 0x1000), (0x28, 2), (0x30, 0), (0x38, 0), (0x40, 0), (0x68, 0), (0x78, 0)],
      let s := { window [0xA5, 0x3C] with result := 7, inbox := [.regRead x.1] }
      s.busy = false ∧ s.inbox = .regRead x.1 :: [] ∧
        ((x.1 = 0x10 ∧ x.2 = 0) ∨ (x.1 = 0x18 ∧ x.2 = s.result.toNat) ∨ (x.1 = 0x20 ∧ x.2 = s.srcBase.toNat) ∨
          (x.1 = 0x28 ∧ x.2 = s.srcLen.toNat) ∨ (x.1 = 0x30 ∧ x.2 + s.cur.valid.toNat = 8 * s.cur.foff.toNat) ∨
          (x.1 = 0x38 ∧ x.2 = s.cur.acc.toNat) ∨
          (x.1 = 0x40 ∧ x.2 = s.cur.foff.toNat * 2 ^ 32 + s.cur.exh.toNat * 2 ^ 8 + s.cur.valid.toNat) ∨
          ((x.1 = 0x68 ∨ x.1 = 0x70 ∨ x.1 = 0x78) ∧ x.2 = 0)) := by decide

theorem witness_ObuRegistersReadTheirFields :
    ∀ off ∈ [0x48, 0x50, 0x58, 0x60],
      (hostActs [.regRead off]).busy = false ∧ (hostActs [.regRead off]).inbox = .regRead off :: [] := by decide

theorem witness_HostWritesSetTheirRegister :
    ∀ off ∈ [0x00, 0x08, 0x10, 0x20, 0x28, 0x18, 0x30, 0x78],
      (hostActs [.regWrite off 1]).busy = false ∧ (hostActs [.regWrite off 1]).inbox = .regWrite off 1 :: [] ∧
        off < 0x80 ∧ off % 8 = 0 := by decide

theorem witness_UndefinedOffsetsAreRefused :
    ((0x7C % 8 ≠ 0 ∨ 0x80 ≤ 0x7C) ∧ (0x80 % 8 ≠ 0 ∨ 0x80 ≤ 0x80)) ∧
    (hostActs [.regWrite 0x80 0]).inbox = .regWrite 0x80 0 :: [] ∧
    (hostActs [.regRead 0x7C]).inbox = .regRead 0x7C :: [] ∧
    (hostActs [.partialAccess 0x18 4]).inbox = .partialAccess 0x18 4 :: [] ∧
    ((hostActs [.regWrite 0x68 1]).busy = false ∧ (hostActs [.regWrite 0x68 1]).inbox = .regWrite 0x68 1 :: []) ∧
    (hostActsBusy [.regRead 0x70]).inbox = .regRead 0x70 :: [] ∧
    (0x78 % 8 = 0 ∧ 0x78 < 0x80 ∧ (hostActs [.regRead 0x78]).inbox = .regRead 0x78 :: []) := by decide

theorem witness_SourceWriteChangesOneByte :
    let s := { window [0xA5, 0x3C] with inbox := [.srcWrite 0x1001 0] }
    Memory.wf s.mem = true ∧ s.inbox = .srcWrite 0x1001 0 :: [] := by decide

theorem witness_SourceReadAnswersMemoryOrAnyValue :
    let s := window [0xA5]
    (s.answerAt 0 = .data ∧ (s.sessBase.toNat + s.cur.foff.toNat) % 2 ^ 32 ∉ s.tainted) ∧
    (let t := { s with tainted := [0x1000] }
     t.answerAt 0 = .data ∧ (t.sessBase.toNat + t.cur.foff.toNat) % 2 ^ 32 ∈ t.tainted) ∧
    { s with srcScript := [.err] }.answerAt 0 = .err := by decide

theorem witness_ResetInputRestoresTheBlock : (hostActsBusy [.reset]).inbox = .reset :: [] := by decide

theorem witness_ReadsFailBeforeTheFirstBind :
    Instr.f1.wellFormed = true ∧ Instr.f1 ≠ .bind ∧ State.reset.cur = Cursor.empty ∧ State.reset.sessLen = 0 ∧
    Instr.f1 ≠ .ns 1 ∧ (Instr.ns 1).wellFormed = true := by decide

theorem witness_RefillLoadsUpToFourBytes :
    (let s := window [0xA5, 0x3C]
     s.cur.foff.toNat ≤ s.sessLen.toNat ∧ s.sessBase.toNat + s.sessLen.toNat ≤ 2 ^ 32 ∧ s.Undisturbed ∧
       s.SourceAnswers 4) ∧
    (let s := twoThen .err (window [1, 2, 3, 4])
     s.cur.foff.toNat ≤ s.sessLen.toNat ∧ s.sessBase.toNat + s.sessLen.toNat ≤ 2 ^ 32 ∧ s.Undisturbed ∧
       2 < min 4 s.unfetched ∧ s.FirstOddAnswer 2 .err) ∧
    (let s := { window [0xA5] with cur := ⟨0xA5000000, 8, true, 1⟩ }
     s.cur.foff.toNat ≤ s.sessLen.toNat ∧ s.sessBase.toNat + s.sessLen.toNat ≤ 2 ^ 32 ∧ s.Undisturbed ∧
       s.cur.exh = true) := by decide

theorem witness_TakeReturnsTheNextUnreadBits :
    (let s := window [0xA5, 0x3C]
     s.Inv ∧ s.Undisturbed ∧ s.SourceAnswers 4 ∧ 16 ≤ s.unread.length ∧ s.unread.length < 17) ∧
    (let s := twoThen .err (window [1, 2, 3, 4])
     s.Inv ∧ s.Undisturbed ∧ (match take 1 s with | .raise .sourceError _ => true | _ => false) = true) := by decide

theorem witness_FReadsTheNextBits :
    (let s := window [0xA5, 0x3C]
     s.Ready 4 ∧ 1 ≤ (16 : BitVec 32).toNat ∧ (16 : BitVec 32).toNat ≤ 32 ∧
       (16 : BitVec 32).toNat ≤ s.unread.length ∧ s.unread.length < (32 : BitVec 32).toNat) ∧
    errsAtThird (.f 1) (twoThen .err (window [1, 2, 3, 4])) = true ∧
    badWords 0x01 0x0000000800000101 0x0000002100000001 = true := by decide

theorem witness_F1ReadsOneBit :
    ((window [0x40]).Ready 4 ∧ (window [0x40]).unread = false :: [true, false, false, false, false, false, false]) ∧
    ((window []).Ready 4 ∧ (window []).unread = []) ∧
    errsAtThird .f1 (twoThen .err (window [1, 2, 3, 4])) = true ∧
    badWords 0x02 0x0000000000000102 0x0000000100000002 = true := by decide

theorem witness_UvlcDecodesRunAndSuffix :
    (let s := window [0x00, 0x40, 0x40]
     s.Ready s.unfetched ∧
       s.unread = List.replicate 9 false ++ true :: [false, false, false, false, false, false, false, true, false,
         false, false, false, false, false] ∧ 9 ≤ 31 ∧ 9 ≤ 14) ∧
    (let s := window [0, 0, 0, 1, 0xFF, 0xFF, 0xFF, 0xFE]
     s.Ready s.unfetched ∧
       s.unread = List.replicate 31 false ++ true :: (List.replicate 31 true ++ [false]) ∧ 31 ≤ 31 ∧ 31 ≤ 32) ∧
    (zeros33.Ready zeros33.unfetched ∧
       zeros33.unread = List.replicate 32 false ++ true :: List.replicate 7 false ∧ 32 ≤ 32) ∧
    ((window [1]).Ready (window [1]).unfetched ∧ (window [1]).unread = List.replicate 7 false ++ true :: []) ∧
    ((window [0, 0]).Ready (window [0, 0]).unfetched ∧ (window [0, 0]).unread = List.replicate 16 false) ∧
    errsAtThird .uvlc (twoThen .err (window [1, 2, 3, 4])) = true ∧
    badWords 0x03 0x0000000000000103 0x0000000100000003 = true := by
  dsimp only
  repeat' apply And.intro
  all_goals decide

theorem witness_LeReadsLittleEndianBytes :
    (let s := window [1, 2, 3, 4, 5, 6, 7, 8]
     s.Ready ((8 : BitVec 32).toNat + 4) ∧ s.pos % 8 = 0 ∧ 8 * (8 : BitVec 32).toNat ≤ s.unread.length) ∧
    (let s := window [0x12]
     s.Ready ((2 : BitVec 32).toNat + 4) ∧ s.pos % 8 = 0 ∧ s.unread.length < 8 * (2 : BitVec 32).toNat) ∧
    (let s := { window [0x80, 0x12, 0x34] with cur := ⟨0x00246800, 23, true, 3⟩ }
     s.Inv ∧ s.pos % 8 ≠ 0) ∧
    errsAtThird (.le 1) (twoThen .err (window [1, 2, 3, 4])) = true ∧
    badWords 0x04 0x0000000200000104 0x0000000900000004 = true := by decide

theorem witness_Leb128ReadsSevenBitGroups :
    (let s := window [0xE5, 0x8E, 0x26]
     s.Ready 12 ∧ s.pos % 8 = 0 ∧ LebAt s.unread 0 3) ∧
    (let s := window [0xFF, 0xFF, 0xFF, 0xFF, 0xFF, 0xFF, 0xFF, 0xFF, 1]
     s.Ready 12 ∧ s.pos % 8 = 0 ∧ LebAt s.unread 0 8) ∧
    (let s := { window [0x80, 0] with cur := ⟨0, 12, true, 2⟩ }
     s.Inv ∧ s.pos % 8 ≠ 0) ∧
    errsAtThird .leb128 (twoThen .err (window [1, 2, 3, 4])) = true ∧
    badWords 0x05 0x0000000000000105 0x0000000100000005 = true := by
  dsimp only
  repeat' apply And.intro
  all_goals decide

/-- No leb128 stands at the start of a window that ends in a continuation byte. -/
theorem witness_Leb128ReadsSevenBitGroups_cut :
    (window [0x80]).Ready 12 ∧ (window [0x80]).pos % 8 = 0 ∧ ∀ n, ¬ LebAt (window [0x80]).unread 0 n := by
  refine ⟨by decide, by decide, fun n h => ?_⟩
  have hn : n ≤ 8 := h.2.1
  have key : ∀ n, n ≤ 8 → ¬ LebAt (window [0x80]).unread 0 n := by decide
  exact key n hn h

theorem witness_SuReadsTwosComplement :
    (let s := window [0x1F, 0x2E]
     s.Ready 4 ∧ 1 ≤ (4 : BitVec 32).toNat ∧ (16 : BitVec 32).toNat ≤ 32 ∧
       (16 : BitVec 32).toNat ≤ s.unread.length ∧ s.unread.length < (17 : BitVec 32).toNat) ∧
    errsAtThird (.su 1) (twoThen .err (window [1, 2, 3, 4])) = true ∧
    badWords 0x06 0x0000000400000106 0x0000002100000006 = true := by decide

theorem witness_NsReadsASymbol :
    (let s := window [0x1B, 0x70]
     s.Ready 8 ∧ 1 ≤ (5 : BitVec 32).toNat ∧ 2 ^ (3 - 1) ≤ (5 : BitVec 32).toNat ∧ (5 : BitVec 32).toNat < 2 ^ 3 ∧
       3 - 1 ≤ s.unread.length ∧ bitsVal (s.unread.take 2) < 2 ^ 3 - (5 : BitVec 32).toNat) ∧
    (let s := window [0xC0]
     s.Ready 8 ∧ 3 ≤ s.unread.length ∧ s.unread[2]? = some false ∧
       2 ^ 3 - (5 : BitVec 32).toNat ≤ bitsVal (s.unread.take 2)) ∧
    (let s := window [0xFF]
     s.Ready 8 ∧ 2 ^ (9 - 1) ≤ (257 : BitVec 32).toNat ∧ (257 : BitVec 32).toNat < 2 ^ 9 ∧
       s.unread.length = 9 - 1 ∧ 2 ^ 9 - (257 : BitVec 32).toNat ≤ bitsVal (s.unread.take 8)) ∧
    errsAtThird (.ns 2) (twoThen .err (window [1, 2, 3, 4])) = true ∧
    badWords 0x07 0x0000000500000107 0x0000000000000007 = true := by
  dsimp only
  repeat' apply And.intro
  all_goals decide

theorem witness_ObuHdrFramesTheHeader :
    (let s := window [0x0E, 0x30, 0x0A, 0, 1, 2, 3, 4, 5, 6, 7, 8, 9]
     s.Ready 14 ∧ s.pos % 8 = 0 ∧ s.strictS = true ∧ 8 * 2 ≤ s.unread.length ∧ LebAt s.unread 2 1 ∧
       streamByte s.unread 1 % 8 = 0 ∧ lebValue s.unread 2 1 ≤ s.sessLen.toNat - (s.pos / 8 + 2 + 1)) ∧
    (let s := window [0x30, 0xAA, 0xBB]
     s.Ready 14 ∧ s.pos % 8 = 0 ∧ 8 * 1 ≤ s.unread.length) ∧
    (let s := { window [0x93, 0x00] with strictS := false }
     s.Ready 14 ∧ s.pos % 8 = 0 ∧ LebAt s.unread 1 1 ∧ lebValue s.unread 1 1 ≤ s.sessLen.toNat - (s.pos / 8 + 1 + 1)) := by
  dsimp only
  repeat' apply And.intro
  all_goals decide

theorem witness_StrictPolicyRejectsReservedBits :
    (let s := window [0x13, 0x00]
     s.Ready 14 ∧ s.pos % 8 = 0 ∧ s.strictS = true ∧ 8 ≤ s.unread.length ∧
       (BitVec.ofNat 8 (streamByte s.unread 0)).getLsbD 0 = true) ∧
    (let s := window [0x0E, 0x31, 0x00]
     let h : Byte := BitVec.ofNat 8 (streamByte s.unread 0)
     s.Ready 14 ∧ s.pos % 8 = 0 ∧ s.strictS = true ∧ 16 ≤ s.unread.length ∧ h.getLsbD 7 = false ∧
       h.getLsbD 0 = false ∧ h.getLsbD 2 = true ∧ streamByte s.unread 1 % 8 ≠ 0) := by decide

theorem witness_TruncatedOrOversizedObuFails :
    ((window []).Ready 14 ∧ (window []).pos % 8 = 0 ∧ (window []).unread.length < 8) ∧
    (let s := window [0x16]
     let h : Byte := BitVec.ofNat 8 (streamByte s.unread 0)
     s.Ready 14 ∧ s.pos % 8 = 0 ∧ 8 ≤ s.unread.length ∧ h.getLsbD 7 = false ∧ h.getLsbD 0 = false ∧
       h.getLsbD 2 = true ∧ s.unread.length < 16) ∧
    (let s := window [0x12, 0x05, 0x00]
     let h : Byte := BitVec.ofNat 8 (streamByte s.unread 0)
     s.Ready 14 ∧ s.pos % 8 = 0 ∧ 8 * 1 ≤ s.unread.length ∧ h.getLsbD 7 = false ∧ h.getLsbD 0 = false ∧
       h.getLsbD 2 = false ∧ h.getLsbD 1 = true ∧ LebAt s.unread 1 1 ∧
       s.sessLen.toNat - (s.pos / 8 + 1 + 1) < lebValue s.unread 1 1) := by
  dsimp only
  repeat' apply And.intro
  all_goals decide

/-- A header whose size bytes are cut off. -/
theorem witness_TruncatedOrOversizedObuFails_cut :
    let s := window [0x12, 0x80]
    let h : Byte := BitVec.ofNat 8 (streamByte s.unread 0)
    s.Ready 14 ∧ s.pos % 8 = 0 ∧ 8 * 1 ≤ s.unread.length ∧ h.getLsbD 7 = false ∧ h.getLsbD 0 = false ∧
      h.getLsbD 2 = false ∧ h.getLsbD 1 = true ∧ ∀ n, ¬ LebAt s.unread 1 n := by
  refine ⟨by decide, by decide, by decide, by decide, by decide, by decide, by decide, fun n h => ?_⟩
  have key : ∀ n, n ≤ 8 → ¬ LebAt (window [0x12, 0x80]).unread 1 n := by decide
  exact key n h.2.1 h

theorem witness_MisalignedStartFails :
    (let s := { window [0x80, 0x12, 0x34] with cur := ⟨0x00246800, 23, true, 3⟩ }
     s.Inv ∧ Instr.obuHdr.wellFormed = true ∧ s.pos % 8 ≠ 0) ∧
    (let s := window [0x12]
     s.Inv ∧ (Instr.le 1).wellFormed = true ∧ s.pos % 8 = 0 ∧ shows (exec (.le 1) s) (fun _ => true) = true) := by decide

theorem witness_BindStartsASession :
    (let s := { State.reset with srcBase := 0xFFFFFFFF, srcLen := 1 }
     s.srcBase.toNat + s.srcLen.toNat ≤ 2 ^ 32) ∧
    (let s := { State.reset with srcBase := 0xFFFFFFFF, srcLen := 2 }
     2 ^ 32 < s.srcBase.toNat + s.srcLen.toNat) ∧
    (State.reset.srcLen = 0 ∧ shows (exec .bind State.reset) (fun _ => true) = true ∧ Instr.f1.wellFormed = true ∧
      Instr.f1 ≠ .bind ∧ Instr.f1 ≠ .ns 1) ∧
    badWords 0x09 0x0000000000000109 0x0000000100000009 = true := by decide

theorem witness_BindForgetsTheHostsWrites :
    shows (exec .bind { window [1] with tainted := [0x1000] }) (fun t => decide (t.err = .none)) = true ∧
    shows (exec .bind { window [1] with srcBase := 0xFFFFFFFF, srcLen := 2, tainted := [0x1000] })
      (fun t => decide (t.err ≠ .none)) = true := by decide

theorem witness_SourceAnswersDecideTheOutcome :
    (let s := window [0xA5, 0x3C]
     s.Inv ∧ shows (exec (.f 8) s.allAnswered) (fun t => decide (∀ k, k < s.readsTo t → s.answerAt k = .data)) = true) ∧
    ((twoThen .err (window [1, 2, 3, 4])).Inv ∧ errsAtThird (.f 8) (twoThen .err (window [1, 2, 3, 4])) = true) ∧
    (let s := twoThen .never (window [1, 2, 3, 4])
     s.Inv ∧ s.FirstOddAnswer 2 .never ∧ shows (exec (.f 8) s.allAnswered) (fun t => decide (2 < s.readsTo t)) = true) := by
  decide

theorem witness_EveryCommandCompletesOnceAnswered : ∀ a ∈ (window [0xA5]).srcScript, a ≠ .never := by decide

theorem witness_FailedCommandRollsBack :
    shows (exec (.le 2) (window [0x12])) (fun t => decide (t.err ≠ .none)) = true := by decide

theorem witness_SuccessfulCommandReports :
    shows (exec (.le 1) (window [0x12])) (fun t => decide (t.err = .none)) = true ∧
    shows (exec .bind (window [0x12])) (fun t => decide (t.err = .none)) = true := by decide

theorem witness_ReadCommandsFrame :
    Instr.uvlc ≠ .obuHdr ∧ Instr.uvlc ≠ .bind ∧
    shows (exec .uvlc (window [0x12])) (fun t => decide (t.err = .none)) = true ∧
    shows (exec .uvlc (window [0])) (fun t => decide (t.err ≠ .none)) = true := by decide

theorem witness_ObuHdrFrame :
    shows (exec .obuHdr (window [0x12, 0])) (fun t => decide (t.err = .none)) = true ∧
    shows (exec .obuHdr { window [0x13] with rsvdWarn := true }) (fun t => decide (t.err ≠ .none)) = true := by decide

theorem witness_EndOfStreamRepeats :
    let s := window [0x12]
    s.Inv ∧ s.Undisturbed ∧
      shows (exec (.le 2) s) (fun t => decide (t.err = .endOfStream) && decide (t.SourceAnswers t.unfetched)) = true := by
  decide

theorem witness_FieldReadsSplit :
    let s := window [0xB7, 0x1D]
    1 ≤ (3 : BitVec 32).toNat ∧ 1 ≤ (5 : BitVec 32).toNat ∧ (3 : BitVec 32).toNat + (5 : BitVec 32).toNat ≤ 32 ∧
      s.Ready 8 ∧ (3 : BitVec 32).toNat + (5 : BitVec 32).toNat ≤ s.unread.length := by decide

theorem witness_RefillsAreLazy :
    let s := window [0xA5, 0x3C]
    s.Inv ∧ Instr.f 4 ≠ .bind ∧ shows (exec (.f 4) s) (fun t => decide (t.err = .none)) = true := by decide

theorem witness_SuIsABijection :
    (1 ≤ 4 ∧ 4 ≤ 32) ∧ 15 < 2 ^ 4 ∧ (-(2 ^ (4 - 1) : Int) ≤ -8 ∧ (-8 : Int) ≤ 2 ^ (4 - 1) - 1) := by decide

theorem witness_ReadResultsStayInRange :
    ∀ i ∈ [Instr.f 4, .f1, .uvlc, .le 1, .leb128, .su 4, .ns 5, .obuHdr, .bind],
      shows (exec i (window [0x12, 0x00])) (fun t => decide (t.err = .none)) = true := by decide

theorem witness_SourceReadsAreBounded :
    (window [0x12, 0x00]).Inv ∧ ∀ i ∈ [Instr.f 4, .f1, .uvlc, .le 1, .leb128, .su 4, .ns 5, .obuHdr, .bind],
      shows (exec i (window [0x12, 0x00])) (fun t => decide (t.err = .none)) = true := by decide

/-- A memory that lacks the bytes outside the window. -/
theorem witness_OutcomeDependsOnTheWindowOnly :
    let s := { window [0x40] with mem := [(0x0FFF, 1), (0x1000, 0x40), (0x1001, 2)] }
    s.Inv ∧ (∀ a, s.sessBase.toNat + s.cur.foff.toNat ≤ a → a < s.sessBase.toNat + s.sessLen.toNat →
      memRead [(0x1000, 0x40)] a = memRead s.mem a) ∧
    shows (exec .f1 s) (fun _ => true) = true ∧
    faults (exec .f1 { s with srcScript := [.never] }) .sourceNeverAnswers = true := by
  refine ⟨by decide, fun a h1 h2 => ?_, by decide, by decide⟩
  have e1 : (0x1000 : BitVec 32).toNat + (0 : BitVec 32).toNat ≤ a := h1
  have e2 : a < (0x1000 : BitVec 32).toNat + (1 : BitVec 32).toNat := h2
  have : a = 0x1000 := by simp at e1 e2; omega
  subst this
  decide

theorem witness_PolicyIsSampledAtIssue :
    shows (exec .obuHdr (window [0x12, 0x00])) (fun _ => true) = true ∧
    (hostActs [.regWrite 0x00 0, .regWrite 0x10 8]).busy = false ∧
    (hostActs [.regWrite 0x00 0, .regWrite 0x10 8]).inbox = .regWrite 0x00 0 :: .regWrite 0x10 8 :: [] := by decide

theorem witness_SrcRegistersActAtBindOnly :
    (Instr.f1 ≠ .bind ∧ shows (exec .f1 (window [0x12])) (fun _ => true) = true) ∧
    (0xFFFFFFFF : BitVec 32).toNat + (1 : BitVec 32).toNat ≤ 2 ^ 32 ∧
    ((hostActs [.regWrite 0x20 7]).busy = false ∧ (hostActs [.regWrite 0x20 7]).inbox = .regWrite 0x20 7 :: []) ∧
    ((hostActs [.regWrite 0x28 7]).busy = false ∧ (hostActs [.regWrite 0x28 7]).inbox = .regWrite 0x28 7 :: []) := by
  decide

theorem witness_ErrorsComeFromTheirCommands :
    shows (exec .f1 (window [])) (fun t => decide (t.err = .endOfStream)) = true ∧
    shows (exec .f1 { window [0x40] with srcScript := [.err] }) (fun t => decide (t.err = .sourceError)) = true ∧
    shows (exec .obuHdr (window [0x13, 0])) (fun t => decide (t.err = .malformedField)) = true ∧
    shows (exec (.le 1) { window [0x40] with cur := ⟨0x80000000, 7, true, 1⟩ })
      (fun t => decide (t.err = .misaligned)) = true ∧
    shows (exec (.f 33) (window [0x40])) (fun t => decide (t.err = .illegalCommand)) = true ∧
    shows (exec .f1 (window [0x40])) (fun t => decide (t.err = .none)) = true := by decide

theorem witness_StickyBitsStayUntilCleared :
    (let s := { hostActs [.regWrite 0x08 0x600] with rsvdWarn := true, overrun := true }
     s.busy = false ∧ s.inbox = .regWrite 0x08 0x600 :: [] ∧
       shows (step s) (fun t => decide (t.rsvdWarn = false) && decide (t.overrun = false)) = true) ∧
    (let s := latched 8 { window [0x13, 0] with strictS := false }
     s.rsvdWarn = false ∧ s.inbox = [] ∧ shows (step s) (fun t => t.rsvdWarn) = true) ∧
    (let s := hostActsBusy [.regWrite 0x78 1]
     s.overrun = false ∧ shows (step s) (fun t => t.overrun) = true) ∧
    (hostActsBusy [.reset]).inbox = .reset :: [] ∧
    shows (exec .obuHdr (window [0x12, 0])) (fun _ => true) = true := by decide

theorem witness_StepKeepsInvariant :
    let s := latched 2 (window [0x40])
    s.Inv ∧ shows (step s) (fun t => decide (t.result = 0)) = true := by decide

theorem witness_SessionEndsByBindOrResetOnly :
    (let s := latched 2 (window [0x40])
     s.Inv ∧ shows (step s) (fun _ => true) = true) ∧
    (let s := latched 9 (window [0x40])
     s.Inv ∧ shows (step s) (fun t => decide (t.err = .none)) = true) := by decide

theorem witness_ResultRegistersChangeByCommandsOnly :
    shows (step (latched 8 (window [0x12, 0x00]))) (fun t => decide (t.err = .none)) = true := by decide

end Sys2Proof.Tests
end

section
/-! What one step can do: how a command ends, what a host action sets; the invariant and the result registers. -/

namespace Sys2Proof.Machine

/-! ### The cursor invariants (10_state.md R21, R23 and R26) under the cursor's operations -/

theorem Cursor.empty_ok (len : BitVec 32) : Cursor.empty.Ok len := by
  simp [Cursor.Ok, Cursor.empty]

/-- Dropping bits from the top of ACC keeps the bits below the valid ones 0. -/
theorem Cursor.Ok.drop {c : Cursor} {len : BitVec 32} (h : c.Ok len) {n : Nat} (hn : n ≤ c.valid.toNat) :
    (c.drop n).Ok len := by
  obtain ⟨h32, hfoff, hlen, hexh, hacc⟩ := h
  have hv : (c.valid - BitVec.ofNat 6 n).toNat = c.valid.toNat - n := by
    rw [BitVec.toNat_sub, BitVec.toNat_ofNat]; omega
  refine ⟨?_, ?_, hlen, hexh, ?_⟩ <;> simp only [Cursor.drop, hv]
  · omega
  · omega
  · obtain ⟨q, hq⟩ := Nat.dvd_of_mod_eq_zero hacc
    have hpow : 2 ^ (32 - c.valid.toNat) * 2 ^ n = 2 ^ (32 - (c.valid.toNat - n)) := by
      rw [← Nat.pow_add]; congr 1; omega
    rw [BitVec.toNat_shiftLeft, Nat.shiftLeft_eq, hq, Nat.mod_mod_of_dvd _ (Nat.pow_dvd_pow 2 (by omega)),
      Nat.mul_right_comm, hpow]
    exact Nat.mul_mod_right _ _

/-- The cursor with its VALID as a refill that has loaded `j` bytes will leave it (20_memory.md R54). -/
def Cursor.loaded (c : Cursor) (j : Nat) : Cursor := { c with valid := BitVec.ofNat 6 (8 * j) }

/-- Clearing ACC starts a refill with no byte loaded. -/
theorem Cursor.Ok.cleared {c : Cursor} {len : BitVec 32} (h : c.Ok len) :
    (Cursor.loaded { c with acc := 0 } 0).Ok len := by
  obtain ⟨-, -, hlen, hexh, -⟩ := h
  exact ⟨by simp [Cursor.loaded], by simp [Cursor.loaded], hlen, hexh, by simp [Cursor.loaded]⟩

/-- One more byte below the `j` loaded ones, as long as the window has one. -/
theorem Cursor.Ok.loadByte {c : Cursor} {len : BitVec 32} {j : Nat} (hj : j < 4) (h : (c.loaded j).Ok len)
    (hmore : c.foff ≠ len) (b : Byte) : ((c.loadByte j b).loaded (j + 1)).Ok len := by
  obtain ⟨-, hfoff, hlen, hexh, hacc⟩ := h
  simp only [Cursor.loaded, BitVec.toNat_ofNat] at hfoff hlen hexh hacc
  have hlt : c.foff.toNat < len.toNat := lt_of_le_of_ne hlen fun he => hmore (BitVec.eq_of_toNat_eq he)
  have hf : (c.foff + 1).toNat = c.foff.toNat + 1 := by
    have := len.isLt
    rw [BitVec.toNat_add]; simp; omega
  refine ⟨?_, ?_, ?_, fun he => absurd (hexh he) hmore, ?_⟩ <;>
    simp only [Cursor.loaded, Cursor.loadByte, BitVec.toNat_ofNat, hf]
  · omega
  · omega
  · omega
  · have hlow : 32 - 8 * (j + 1) % 2 ^ 6 = 24 - 8 * j := by omega
    have hold : c.acc.toNat % 2 ^ (24 - 8 * j) = 0 :=
      Nat.mod_eq_zero_of_dvd ((Nat.pow_dvd_pow 2 (by omega)).trans (Nat.dvd_of_mod_eq_zero hacc))
    rw [hlow, BitVec.toNat_or, Nat.or_mod_two_pow, hold, BitVec.toNat_shiftLeft, Nat.shiftLeft_eq,
      Nat.mod_mod_of_dvd _ (Nat.pow_dvd_pow 2 (by omega)), Nat.mul_mod_left]
    rfl

/-! ### Reading keeps the cursor invariants -/

/-- What the reads of a command keep of the invariant: a cursor in order, and an IDLE refill machine. -/
def State.Tidy (s : State) : Prop := s.cur.Ok s.sessLen ∧ s.fsm = .idle

/-- Every value that `r` answers comes with a tidy state. -/
def Res.Tidy {α : Type} (r : Res α) : Prop := r.Ends (fun _ t => t.Tidy) fun _ _ => True

theorem Res.Tidy.bind {α β : Type} {r : Res α} {k : α → State → Res β} (h : r.Tidy)
    (hk : ∀ v s, s.Tidy → (k v s).Tidy) : (r.bind k).Tidy := Res.Ends.bind h hk

theorem fillFrom_tidy {k j : Nat} (hkj : j + k = 4) {s : State} (h : (s.cur.loaded j).Ok s.sessLen) :
    (fillFrom k j s).Tidy := by
  induction k generalizing j s with
  | zero => exact ⟨h, rfl⟩
  | succ k ih =>
    unfold fillFrom
    split
    next hend =>
      obtain ⟨h32, hfoff, hlen, -, hacc⟩ := h
      exact ⟨⟨h32, hfoff, hlen, fun _ => hend, hacc⟩, rfl⟩
    next hmore =>
      rcases srcRead_cases (s.setFsm (.fill (Fin.ofNat 4 j))) with ⟨-, hr⟩ | ⟨-, hr⟩ | ⟨-, hr⟩ <;> rw [hr]
      · exact ih (by omega) (h.loadByte (by omega) hmore _)
      · trivial
      · trivial

theorem refill_tidy {s : State} (h : s.Tidy) : (refill s).Tidy := fillFrom_tidy rfl h.1.cleared

theorem take_tidy (n : Nat) {s : State} (h : s.Tidy) : (take n s).Tidy := by
  rcases take_cases n s with ⟨-, e⟩ | ⟨-, hn, e⟩ | ⟨-, -, e⟩ | ⟨-, -, e⟩ <;> rw [e]
  · exact h
  · exact ⟨h.1.drop hn, h.2⟩
  · trivial
  · refine (refill_tidy h).bind fun _ t ht => ?_
    split
    · trivial
    · exact ⟨ht.1.drop (by omega), ht.2⟩

theorem uvlcRun_tidy (fuel k : Nat) {s : State} (h : s.Tidy) : (uvlcRun fuel k s).Tidy := by
  induction fuel generalizing k s with
  | zero => trivial
  | succ fuel ih =>
    refine (take_tidy 1 h).bind fun b t ht => ?_
    split
    · exact ht
    · exact ih _ ht

theorem leBytes_tidy (m i v : Nat) {s : State} (h : s.Tidy) : (leBytes m i v s).Tidy := by
  induction m generalizing i v s with
  | zero => exact h
  | succ m ih => exact (take_tidy 8 h).bind fun _ _ ht => ih _ _ ht

theorem lebBytes_tidy (m i v : Nat) {s : State} (h : s.Tidy) : (lebBytes m i v s).Tidy := by
  induction m generalizing i v s with
  | zero => exact h
  | succ m ih =>
    refine (take_tidy 8 h).bind fun b t ht => ?_
    dsimp only
    split
    · exact ht
    · exact ih _ _ ht

theorem onByteBoundary_tidy {body : State → Res (Option Word)} {s : State} (h : (body s).Tidy) :
    (onByteBoundary body s).Tidy := by
  unfold onByteBoundary
  split
  · exact h
  · trivial

theorem bodyF_tidy (n : BitVec 32) {s : State} (h : s.Tidy) : (bodyF n s).Tidy :=
  (take_tidy _ h).bind fun _ _ ht => ht

theorem bodyF1_tidy {s : State} (h : s.Tidy) : (bodyF1 s).Tidy := (take_tidy _ h).bind fun _ _ ht => ht

theorem bodyUvlc_tidy {s : State} (h : s.Tidy) : (bodyUvlc s).Tidy := by
  refine (uvlcRun_tidy _ _ h).bind fun k t ht => ?_
  unfold uvlcTail
  split
  · exact ht
  · exact (take_tidy _ ht).bind fun _ _ hu => hu

theorem bodyLe_tidy (n : BitVec 32) {s : State} (h : s.Tidy) : (bodyLe n s).Tidy :=
  onByteBoundary_tidy ((leBytes_tidy _ _ _ h).bind fun _ _ ht => ht)

theorem bodyLeb128_tidy {s : State} (h : s.Tidy) : (bodyLeb128 s).Tidy :=
  onByteBoundary_tidy ((lebBytes_tidy _ _ _ h).bind fun _ _ ht => ht)

theorem bodySu_tidy (n : BitVec 32) {s : State} (h : s.Tidy) : (bodySu n s).Tidy :=
  (take_tidy _ h).bind fun _ _ ht => ht

theorem bodyNs_tidy (n : BitVec 32) {s : State} (h : s.Tidy) : (bodyNs n s).Tidy := by
  refine (take_tidy _ h).bind fun v t ht => ?_
  split
  · exact ht
  · exact (take_tidy _ ht).bind fun _ _ hu => hu

theorem checkReserved_tidy (d : Bool) {s : State} (h : s.Tidy) : (checkReserved d s).Tidy := by
  unfold checkReserved
  split
  · trivial
  · exact h

theorem readHeader_tidy {s : State} (h : s.Tidy) : (readHeader s).Tidy :=
  (take_tidy 8 h).bind fun _ _ ht => (checkReserved_tidy _ ht).bind fun _ _ hu => hu

theorem readExt_tidy (present : Bool) {s : State} (h : s.Tidy) : (readExt present s).Tidy := by
  unfold readExt
  split
  · exact (take_tidy 8 h).bind fun _ _ ht => (checkReserved_tidy _ ht).bind fun _ _ hu => hu
  · exact h

theorem readSize_tidy (present : Bool) {s : State} (h : s.Tidy) : (readSize present s).Tidy := by
  unfold readSize
  split
  · exact lebBytes_tidy _ _ _ h
  · exact h

theorem payloadLength_tidy (hasSize : Bool) (size rem : Nat) {s : State} (h : s.Tidy) :
    (payloadLength hasSize size rem s).Tidy := by
  unfold payloadLength
  split
  · split
    · trivial
    · exact h
  · exact h

theorem bodyObuHdr_tidy {s : State} (h : s.Tidy) : (bodyObuHdr s).Tidy :=
  onByteBoundary_tidy <|
    (readHeader_tidy h).bind fun _ _ ht => (readExt_tidy _ ht).bind fun _ _ hu =>
      (readSize_tidy _ hu).bind fun _ _ hv => (payloadLength_tidy _ _ _ hv).bind fun _ _ hw => hw

/-! ### How a command ends -/

/-- From `s` to `u`, a header was parsed and its OBU registers written (42_obu_framer.md R134). -/
def Frames (s u : State) : Prop :=
  u.obu.size.toNat < 2 ^ 56 ∧ u.obu.info.hdrLen.toNat ≤ 10 ∧
    u = { s with cur := u.cur, fsm := u.fsm, srcScript := u.srcScript, draws := u.draws,
                 obu := u.obu, rsvdWarn := u.rsvdWarn }

/-- The states that the command `i`, started in `s`, can end in (40_command_cycle.md R91 to R94). -/
inductive CommandEnds (i : Instr) (s : State) : State → Prop where
  | illegal : CommandEnds i s (s.failWith .illegalCommand)
  | failed (e : ErrCode) (u : State) (hr : Reads s.checkpoint u) : CommandEnds i s (u.rollback.failWith e)
  | read (v : Word) (u : State) (hr : Reads s.checkpoint u) (ht : s.Tidy → u.Tidy) : CommandEnds i s (u.succeed v)
  | framed (v : Word) (u : State) (hi : i = .obuHdr) (hf : Frames s.checkpoint u) (ht : s.Tidy → u.Tidy) :
      CommandEnds i s (u.succeed v)
  | bound (hi : i = .bind) (hw : legalWindow s = true) : CommandEnds i s s.checkpoint.openSession.succeedNoValue

theorem CommandEnds.of_readBody {i : Instr} {legal : Bool} {body : State → Res (Option Word)} {s t : State}
    (hb : legal = true → ReadBody s.checkpoint (body s.checkpoint)) (ht : s.Tidy → (body s.checkpoint).Tidy)
    (h : command legal body s = .next t) : CommandEnds i s t := by
  rcases command_eq_next.1 h with ⟨-, rfl⟩ | ⟨hl, ⟨v, u, hu, rfl⟩ | ⟨u, hu, rfl⟩ | ⟨e, u, hu, rfl⟩⟩
  · exact .illegal
  all_goals
    have hends := hb hl
    rw [hu] at hends ht
  · exact .read v u hends.2 ht
  · obtain ⟨⟨w, hw⟩, -⟩ := hends
    cases hw
  · exact .failed e u hends.1

theorem execObuHdr_ends {s t : State} (h : execObuHdr s = .next t) : CommandEnds .obuHdr s t := by
  have hends := bodyObuHdr_ends s.checkpoint
  have ht : s.Tidy → (bodyObuHdr s.checkpoint).Tidy := fun h => bodyObuHdr_tidy (s := s.checkpoint) h
  rcases command_eq_next.1 h with ⟨hl, -⟩ | ⟨-, ⟨v, u, hu, rfl⟩ | ⟨u, hu, rfl⟩ | ⟨e, u, hu, rfl⟩⟩
  · cases hl
  all_goals rw [hu] at hends ht
  · obtain ⟨-, hsize, hlen, -, hu⟩ := hends
    exact .framed v u rfl ⟨hsize, hlen, hu⟩ ht
  · cases hends.1
  · exact .failed e u hends.1

theorem execBind_ends {s t : State} (h : execBind s = .next t) : CommandEnds .bind s t := by
  rcases command_eq_next.1 h with ⟨-, rfl⟩ | ⟨hw, ⟨v, u, hu, -⟩ | ⟨u, hu, rfl⟩ | ⟨e, u, hu, -⟩⟩
  · exact .illegal
  · cases hu
  · cases hu
    exact .bound rfl hw
  · cases hu

theorem exec_ends {i : Instr} {s t : State} (h : exec i s = .next t) : CommandEnds i s t := by
  cases i with
  | f n => exact .of_readBody (fun hl => bodyF_ends hl _) (fun hs => bodyF_tidy n hs) h
  | f1 => exact .of_readBody (legal := true) (fun _ => bodyF1_ends _) (fun hs => bodyF1_tidy hs) h
  | uvlc => exact .of_readBody (legal := true) (fun _ => bodyUvlc_ends _) (fun hs => bodyUvlc_tidy hs) h
  | le n => exact .of_readBody (fun _ => bodyLe_ends n _) (fun hs => bodyLe_tidy n hs) h
  | leb128 => exact .of_readBody (legal := true) (fun _ => bodyLeb128_ends _) (fun hs => bodyLeb128_tidy hs) h
  | su n => exact .of_readBody (fun hl => bodySu_ends hl _) (fun hs => bodySu_tidy n hs) h
  | ns n => exact .of_readBody (fun _ => bodyNs_ends n _) (fun hs => bodyNs_tidy n hs) h
  | obuHdr => exact execObuHdr_ends h
  | bind => exact execBind_ends h

/-! ### What a host action sets -/

/-- A register access sets host-side registers and the host's own fields only; the cursor, the session, the result
registers and the source stay. -/
def RegisterAccess (s t : State) : Prop :=
  t = { s with strict := t.strict, busy := t.busy, rsvdWarn := t.rsvdWarn, overrun := t.overrun, cmdWord := t.cmdWord,
               strictS := t.strictS, srcBase := t.srcBase, srcLen := t.srcLen, draws := t.draws, inbox := t.inbox,
               rdata := t.rdata }

theorem hostRegWrite_access (r : HostReg) (v : Word) (s : State) : RegisterAccess s (hostRegWrite r v s) := by
  unfold hostRegWrite
  split
  · rfl
  · cases r <;> rfl

theorem hostRegRead_access (r : HostReg) (s : State) : RegisterAccess s (hostRegRead r s) := by
  unfold hostRegRead
  split <;> rfl

theorem atOffset_eq_next {off : Nat} {access : HostReg → State} {t : State} :
    atOffset off access = .next t ↔ ∃ r, hostRegOf off = some r ∧ t = access r := by
  unfold atOffset
  cases hostRegOf off <;> simp [eq_comm]

/-- The states that the host's turn can end in. -/
inductive HostTurnEnds (s : State) : State → Prop where
  | access (t : State) (h : RegisterAccess s t) : HostTurnEnds s t
  | srcWrite (a : Addr) (b : Byte) (rest : List HostOp) (hi : s.inbox = .srcWrite a b :: rest) :
      HostTurnEnds s ((s.setInbox rest).srcWrite a b)
  | reset (rest : List HostOp) (hi : s.inbox = .reset :: rest) : HostTurnEnds s (s.setInbox rest).applyReset

theorem hostTurn_ends {s t : State} (h : hostTurn s = .next t) : HostTurnEnds s t := by
  unfold hostTurn at h
  split at h
  next => cases h; exact .access _ rfl
  next op rest hi =>
    cases op with
    | regWrite off v =>
      obtain ⟨r, -, rfl⟩ := atOffset_eq_next.1 h
      exact .access _ (hostRegWrite_access r v (s.setInbox rest))
    | regRead off =>
      obtain ⟨r, -, rfl⟩ := atOffset_eq_next.1 h
      exact .access _ (hostRegRead_access r (s.setInbox rest))
    | partialAccess off width => cases h
    | srcWrite a b => cases h; exact .srcWrite a b rest hi
    | awaitDone => cases h; exact .access _ rfl
    | reset => cases h; exact .reset rest hi

/-- What one step can do: the latched word is illegal, a latched command ends, or the host has its turn. -/
theorem step_cases {s t : State} (h : step s = .next t) :
    (blockTurn s = true ∧ t = s.failWith .illegalCommand) ∨
      (blockTurn s = true ∧ ∃ i, decode (fetch s) = .ok i ∧ CommandEnds i s t) ∨
      (blockTurn s = false ∧ HostTurnEnds s t) := by
  unfold step at h
  split at h
  next hb =>
    unfold runLatched at h
    split at h
    next i hi => exact .inr (.inl ⟨hb, i, hi, exec_ends h⟩)
    next => cases h; exact .inl ⟨hb, rfl⟩
  next hb => exact .inr (.inr ⟨by simpa using hb, hostTurn_ends h⟩)

/-! ### The invariant -/

/-- The part of the invariant that reads never touch: the window, the source memory, and the bounds of the OBU
registers. -/
def State.SetupOk (s : State) : Prop :=
  s.sessBase.toNat + s.sessLen.toNat ≤ 2 ^ 32 ∧ Memory.wf s.mem = true ∧
    (∀ a ∈ s.tainted, s.sessBase.toNat ≤ a ∧ a < s.sessBase.toNat + s.sessLen.toNat) ∧
    s.obu.size.toNat < 2 ^ 56 ∧ s.obu.info.hdrLen.toNat ≤ 10

theorem State.inv_iff {s : State} : s.Inv ↔ s.Tidy ∧ s.SetupOk := by
  constructor
  · rintro ⟨hc, hw, hf, hm, ht, hs, hl⟩
    exact ⟨⟨hc, hf⟩, hw, hm, ht, hs, hl⟩
  · rintro ⟨⟨hc, hf⟩, hw, hm, ht, hs, hl⟩
    exact ⟨hc, hw, hf, hm, ht, hs, hl⟩

theorem Reads.setupOk {s u : State} (h : Reads s u) (hs : s.SetupOk) : u.SetupOk := by
  rw [h]; exact hs

theorem Frames.setupOk {s u : State} (h : Frames s u) (hs : s.SetupOk) : u.SetupOk := by
  obtain ⟨hsize, hlen, hu⟩ := h
  obtain ⟨hw, hm, ht, -, -⟩ := hs
  rw [hu]; exact ⟨hw, hm, ht, hsize, hlen⟩

/-- A rollback puts the checkpointed cursor back, on the window that the reads left alone. -/
theorem Reads.rollback_tidy {s u : State} (h : Reads s.checkpoint u) (hs : s.Tidy) : u.rollback.Tidy := by
  rw [h]; exact ⟨hs.1, rfl⟩

theorem CommandEnds.inv {i : Instr} {s t : State} (h : CommandEnds i s t) (hs : s.Inv) : t.Inv := by
  obtain ⟨htidy, hsetup⟩ := State.inv_iff.1 hs
  refine State.inv_iff.2 ?_
  cases h with
  | illegal => exact ⟨htidy, hsetup⟩
  | failed e u hr => exact ⟨hr.rollback_tidy htidy, hr.setupOk hsetup⟩
  | read v u hr ht => exact ⟨ht htidy, hr.setupOk hsetup⟩
  | framed v u hi hf ht => exact ⟨ht htidy, hf.setupOk hsetup⟩
  | bound hi hw =>
    obtain ⟨-, hmem, -, hobu⟩ := hsetup
    exact ⟨⟨Cursor.empty_ok _, htidy.2⟩, (legalWindow_iff s).1 hw, hmem, by simp, hobu⟩

theorem RegisterAccess.inv {s t : State} (h : RegisterAccess s t) (hs : s.Inv) : t.Inv := by
  rw [h]; exact hs

theorem State.inWindow_iff {s : State} {a : Nat} :
    s.inWindow a = true ↔ s.sessBase.toNat ≤ a ∧ a < s.sessBase.toNat + s.sessLen.toNat := by
  simp [State.inWindow]

/-- A host write of the source keeps the canonical form of the memory, and notes addresses of the window only
(20_memory.md R62). -/
theorem State.Inv.srcWrite {s : State} (h : s.Inv) (a : Addr) (b : Byte) : (s.srcWrite a b).Inv := by
  obtain ⟨hc, hw, hf, hm, ht, hobu⟩ := h
  refine ⟨hc, hw, hf, memWrite_wf hm a.isLt b, fun x hx => ?_, hobu⟩
  simp only [State.srcWrite_tainted] at hx
  split at hx
  next hin =>
    rcases List.mem_insert_iff.1 hx with rfl | hx
    · exact State.inWindow_iff.1 hin
    · exact ht x hx
  next => exact ht x hx

/-- Settles O18: the cursor, the window and the memory of reset are empty. -/
theorem resetMeetsInvariant : Obligations.ResetMeetsInvariant :=
  ⟨Cursor.empty_ok _, by decide, rfl, rfl, by simp [State.reset], by decide, by decide⟩

/-- The reset input leaves the source memory as it is, and all else of the invariant is as at reset. -/
theorem State.Inv.applyReset {s : State} (h : s.Inv) : s.applyReset.Inv := by
  obtain ⟨hc, hw, hf, -, hrest⟩ := resetMeetsInvariant
  obtain ⟨-, -, -, hm, -⟩ := h
  exact ⟨hc, hw, hf, hm, hrest⟩

theorem HostTurnEnds.inv {s t : State} (h : HostTurnEnds s t) (hs : s.Inv) : t.Inv := by
  cases h with
  | access t h => exact h.inv hs
  | srcWrite a b rest hi => exact State.Inv.srcWrite (s := s.setInbox rest) hs a b
  | reset rest hi => exact State.Inv.applyReset (s := s.setInbox rest) hs

/-- Settles O51, by what each end of a step does to the cursor and the window. -/
theorem stepKeepsInvariant : Obligations.StepKeepsInvariant := by
  intro s t hs h
  rcases step_cases h with ⟨-, rfl⟩ | ⟨-, i, -, hend⟩ | ⟨-, hend⟩
  · exact hs
  · exact hend.inv hs
  · exact hend.inv hs

/-! ### The result registers (10_state.md R36 and R42 to R45) -/

theorem Reads.obu_eq {s t : State} (h : Reads s t) : t.obu = s.obu := by rw [h]

theorem Reads.result_eq {s t : State} (h : Reads s t) : t.result = s.result := by rw [h]

theorem RegisterAccess.obu_eq {s t : State} (h : RegisterAccess s t) : t.obu = s.obu := by rw [h]

theorem RegisterAccess.result_eq {s t : State} (h : RegisterAccess s t) : t.result = s.result := by rw [h]

/-- Only a successful OBU_HDR writes the OBU registers (42_obu_framer.md R134). -/
theorem CommandEnds.obu {i : Instr} {s t : State} (h : CommandEnds i s t) :
    t.obu = s.obu ∨ (i = .obuHdr ∧ t.err = .none) := by
  cases h with
  | illegal => exact .inl rfl
  | failed e u hr => exact .inl hr.obu_eq
  | read v u hr ht => exact .inl hr.obu_eq
  | framed v u hi hf ht => exact .inr ⟨hi, rfl⟩
  | bound hi hw => exact .inl rfl

/-- Only a command that succeeds with a value writes RESULT (40_command_cycle.md R93 and R94). -/
theorem CommandEnds.result {i : Instr} {s t : State} (h : CommandEnds i s t) :
    t.result = s.result ∨ (t.err = .none ∧ t.resValid = true) := by
  cases h with
  | illegal => exact .inl rfl
  | failed e u hr => exact .inl hr.result_eq
  | read v u hr ht => exact .inr ⟨rfl, rfl⟩
  | framed v u hi hf ht => exact .inr ⟨rfl, rfl⟩
  | bound hi hw => exact .inl rfl

theorem HostTurnEnds.results {s t : State} (h : HostTurnEnds s t) :
    (t.obu = s.obu ∧ t.result = s.result) ∨ ∃ rest, s.inbox = .reset :: rest := by
  cases h with
  | access t h => exact .inl ⟨h.obu_eq, h.result_eq⟩
  | srcWrite a b rest hi => exact .inl ⟨rfl, rfl⟩
  | reset rest hi => exact .inr ⟨rest, hi⟩

/-- Settles O53, by what each end of a step writes. -/
theorem resultRegistersChangeByCommandsOnly : Obligations.ResultRegistersChangeByCommandsOnly := by
  intro s t h
  rcases step_cases h with ⟨-, rfl⟩ | ⟨hb, i, hi, hend⟩ | ⟨-, hend⟩
  · exact ⟨.inl rfl, .inl rfl⟩
  · exact ⟨hend.obu.imp_right fun ⟨hobu, he⟩ => .inl ⟨hb, hobu ▸ hi, he⟩,
      hend.result.imp_right fun hv => .inl ⟨hb, hv⟩⟩
  · rcases hend.results with ⟨hobu, hres⟩ | hreset
    · exact ⟨.inl hobu, .inl hres⟩
    · exact ⟨.inr (.inr hreset), .inr (.inr hreset)⟩

end Sys2Proof.Machine
end

section
/-! The host register map (10_state.md R32 to R46): what reads answer and what writes set while the block is idle, which
offsets are refused; the values after reset. -/

namespace Sys2Proof.Machine

/-! ### The registers as numbers -/

/-- Two fields side by side, the right one the less significant. -/
theorem toNat_append_eq_add {m n : Nat} (x : BitVec m) (y : BitVec n) :
    (x ++ y).toNat = x.toNat * 2 ^ n + y.toNat := by
  rw [BitVec.toNat_append, ← Nat.shiftLeft_add_eq_or_of_lt y.isLt, Nat.shiftLeft_eq]

theorem eq_ofNat_of_toNat_eq {w : Word} {n : Nat} (h : w.toNat = n) : w = BitVec.ofNat 64 n := by
  rw [← h, BitVec.ofNat_toNat, BitVec.setWidth_eq]

/-- Reserved bits above a field add nothing to it. -/
theorem zero_append_toNat (m : Nat) {n : Nat} (x : BitVec n) : ((0 : BitVec m) ++ x).toNat = x.toNat := by
  simp only [toNat_append_eq_add, BitVec.ofNat_eq_ofNat, BitVec.toNat_ofNat, Nat.zero_mod, Nat.zero_mul, Nat.zero_add]

theorem ctrlWord_toNat (s : State) : (ctrlWord s).toNat = s.strict.toNat :=
  (zero_append_toNat 63 _).trans (BitVec.toNat_ofBool s.strict)

theorem statusWord_toNat (s : State) :
    (statusWord s).toNat = s.busy.toNat + 2 * s.resValid.toNat + 16 * s.err.code.toNat + 256 * s.cur.exh.toNat +
      512 * s.rsvdWarn.toNat + 1024 * s.overrun.toNat := by
  simp only [statusWord, toNat_append_eq_add, BitVec.toNat_ofBool, BitVec.ofNat_eq_ofNat, BitVec.toNat_ofNat]
  omega

theorem accWord_toNat (s : State) : (accWord s).toNat = s.cur.acc.toNat := zero_append_toNat 32 _

theorem cursorWord_toNat (s : State) :
    (cursorWord s).toNat = s.cur.foff.toNat * 2 ^ 32 + s.cur.exh.toNat * 2 ^ 8 + s.cur.valid.toNat := by
  simp only [cursorWord, toNat_append_eq_add, BitVec.toNat_ofBool, BitVec.ofNat_eq_ofNat, BitVec.toNat_ofNat]
  omega

theorem ObuInfo.word_toNat (o : ObuInfo) :
    o.word.toNat = o.tag.toNat + o.typeReserved.toNat * 2 ^ 4 + o.extFlag.toNat * 2 ^ 5 + o.hasSize.toNat * 2 ^ 6 +
      o.temporalId.toNat * 2 ^ 7 + o.spatialId.toNat * 2 ^ 10 + o.forbidden.toNat * 2 ^ 12 + o.rsvd1.toNat * 2 ^ 13 +
      o.extRsvd3.toNat * 2 ^ 14 + o.hdrLen.toNat * 2 ^ 17 := by
  simp only [ObuInfo.word, toNat_append_eq_add, BitVec.toNat_ofBool, BitVec.ofNat_eq_ofNat, BitVec.toNat_ofNat]
  omega

/-! ### The host's turn -/

/-- The host's next action is the step, unless it waits for a busy block (assumption 2). -/
theorem step_of_hostOp {s : State} {op : HostOp} {rest : List HostOp} (hi : s.inbox = op :: rest)
    (h : s.busy = false ∨ op ≠ .awaitDone) : step s = hostOp op (s.setInbox rest) := by
  have hturn : blockTurn s = false := by
    rw [← Bool.not_eq_true, blockTurn_eq_true, hi]
    rintro ⟨hb, hnil | ⟨rest', hw⟩⟩
    · cases hnil
    · rcases h with h | h
      · simp [hb] at h
      · exact h (List.cons.inj hw).1
  simp [step, hturn, hostTurn, hi]

theorem step_of_regRead {s : State} {off : Nat} {r : HostReg} {rest : List HostOp}
    (hi : s.inbox = .regRead off :: rest) (hr : hostRegOf off = some r) :
    step s = .next (hostRegRead r (s.setInbox rest)) := by
  rw [step_of_hostOp hi (.inr nofun)]
  exact atOffset_eq_next.2 ⟨r, hr, rfl⟩

theorem step_of_regWrite {s : State} {off : Nat} {v : Word} {r : HostReg} {rest : List HostOp}
    (hi : s.inbox = .regWrite off v :: rest) (hr : hostRegOf off = some r) :
    step s = .next (hostRegWrite r v (s.setInbox rest)) := by
  rw [step_of_hostOp hi (.inr nofun)]
  exact atOffset_eq_next.2 ⟨r, hr, rfl⟩

/-- What a register reads as does not depend on the host's pending actions. -/
theorem hostRegValue_setInbox (r : HostReg) (s : State) (rest : List HostOp) :
    hostRegValue r (s.setInbox rest) = hostRegValue r s := by
  cases r <;> rfl

/-- A register read while the block is idle. -/
theorem step_of_idle_regRead {s : State} {off value : Nat} {rest : List HostOp} (r : HostReg) (hb : s.busy = false)
    (hi : s.inbox = .regRead off :: rest) (hr : hostRegOf off = some r) (hv : (hostRegValue r s).toNat = value) :
    step s = .next { s with inbox := rest, rdata := BitVec.ofNat 64 value } := by
  rw [step_of_regRead hi hr, ← eq_ofNat_of_toNat_eq hv, ← hostRegValue_setInbox r s rest]
  simp [hostRegRead, hb, State.setRdata, State.setInbox]

/-- A register write while the block is idle. -/
theorem step_of_idle_regWrite {s : State} {off : Nat} {v : Word} {rest : List HostOp} (r : HostReg)
    (hb : s.busy = false) (hi : s.inbox = .regWrite off v :: rest) (hr : hostRegOf off = some r) :
    step s = .next (hostRegSet r v (s.setInbox rest)) := by
  rw [step_of_regWrite hi hr]
  simp [hostRegWrite, hb]

/-! ### Reads -/

/-- Settles O8: with BUSY = 0 the host reads the words of R33 and R34. -/
theorem statusAndCtrlReadTheirFields : Obligations.StatusAndCtrlReadTheirFields := by
  intro s rest hb
  refine ⟨fun hi => step_of_idle_regRead .ctrl hb hi rfl (ctrlWord_toNat s),
    fun hi => step_of_idle_regRead .status hb hi rfl ?_⟩
  have h := statusWord_toNat s
  rw [hb] at h
  cases he : s.err <;> rw [he] at h <;> simpa [hostRegValue, ErrCode.code] using h

/-- Settles O9, register by register. -/
theorem cursorRegistersReadTheCursor : Obligations.CursorRegistersReadTheCursor := by
  intro s rest off value hb hi h
  rcases h with ⟨rfl, rfl⟩ | ⟨rfl, rfl⟩ | ⟨rfl, rfl⟩ | ⟨rfl, rfl⟩ | ⟨rfl, hpos⟩ | ⟨rfl, rfl⟩ | ⟨rfl, rfl⟩ |
    ⟨rfl | rfl | rfl, rfl⟩
  · exact step_of_idle_regRead .cmd hb hi rfl rfl
  · exact step_of_idle_regRead .result hb hi rfl rfl
  · exact step_of_idle_regRead .srcBase hb hi rfl (zero_append_toNat 32 _)
  · exact step_of_idle_regRead .srcLen hb hi rfl (zero_append_toNat 32 _)
  · have hvalue : s.pos = value := by unfold State.pos; omega
    have hlt : value < 2 ^ 64 := by have := s.cur.foff.isLt; omega
    refine step_of_idle_regRead .pos hb hi rfl ?_
    simpa [hostRegValue, hvalue] using hlt
  · exact step_of_idle_regRead .acc hb hi rfl (accWord_toNat s)
  · exact step_of_idle_regRead .cursor hb hi rfl (cursorWord_toNat s)
  all_goals exact step_of_idle_regRead .reserved hb hi rfl rfl

/-- Settles O10, register by register. -/
theorem obuRegistersReadTheirFields : Obligations.ObuRegistersReadTheirFields := by
  intro s rest off value hb hi h
  rcases h with ⟨rfl, rfl⟩ | ⟨rfl, rfl⟩ | ⟨rfl, rfl⟩ | ⟨rfl, rfl⟩
  · exact step_of_idle_regRead .obuInfo hb hi rfl s.obu.info.word_toNat
  · exact step_of_idle_regRead .obuSize hb hi rfl rfl
  · exact step_of_idle_regRead .payloadOff hb hi rfl (zero_append_toNat 32 _)
  · exact step_of_idle_regRead .payloadLen hb hi rfl rfl

/-! ### Writes -/

theorem getLsbD_zero_eq_decide (v : Word) : v.getLsbD 0 = decide (v.toNat % 2 = 1) :=
  Nat.testBit_zero v.toNat

theorem not_getLsbD_eq_decide (v : Word) (n : Nat) : (!v.getLsbD n) = decide (v.toNat / 2 ^ n % 2 = 0) := by
  rw [BitVec.getLsbD, Nat.testBit_eq_decide_div_mod_eq, ← decide_not]
  simp

theorem setWidth_eq_ofNat_mod (v : Word) : v.setWidth 32 = BitVec.ofNat 32 (v.toNat % 2 ^ 32) := by
  apply BitVec.eq_of_toNat_eq
  simp

/-- RESULT and the registers from POS up ignore writes (10_state.md R36 and R39 to R46). -/
theorem hostRegSet_readOnly {off : Nat} (h : off = 0x18 ∨ (0x30 ≤ off ∧ off < 0x80 ∧ off % 8 = 0)) :
    ∃ r, hostRegOf off = some r ∧ ∀ v s, hostRegSet r v s = s := by
  rcases h with rfl | ⟨hlo, hhi, hoff⟩
  · exact ⟨.result, rfl, fun _ _ => rfl⟩
  · obtain ⟨k, rfl⟩ := Nat.dvd_of_mod_eq_zero hoff
    have hk : 6 ≤ k := by omega
    have hk' : k < 16 := by omega
    interval_cases k <;> exact ⟨_, rfl, fun _ _ => rfl⟩

/-- Settles O11, register by register. -/
theorem hostWritesSetTheirRegister : Obligations.HostWritesSetTheirRegister := by
  intro s off v rest hb hi
  refine ⟨?_, ?_, ?_, ?_, ?_, fun hoff => ?_⟩
  · rintro rfl
    rw [step_of_idle_regWrite .ctrl hb hi rfl]
    simp only [hostRegSet, State.setStrict, State.setInbox, getLsbD_zero_eq_decide]
  · rintro rfl
    rw [step_of_idle_regWrite .status hb hi rfl]
    simp only [hostRegSet, State.clearSticky, State.setInbox, not_getLsbD_eq_decide]
  · rintro rfl
    exact step_of_idle_regWrite .cmd hb hi rfl
  · rintro rfl
    rw [← setWidth_eq_ofNat_mod]
    exact step_of_idle_regWrite .srcBase hb hi rfl
  · rintro rfl
    rw [← setWidth_eq_ofNat_mod]
    exact step_of_idle_regWrite .srcLen hb hi rfl
  · obtain ⟨r, hr, hset⟩ := hostRegSet_readOnly hoff
    rw [step_of_idle_regWrite r hb hi hr, hset]
    rfl

/-! ### Refusals -/

/-- No register stands at an offset that is not a multiple of 8 or is at or above 0x80 (10_state.md R46). -/
theorem hostRegOf_eq_none {off : Nat} (h : off % 8 ≠ 0 ∨ 0x80 ≤ off) : hostRegOf off = none := by
  rw [← Option.not_isSome_iff_eq_none, hostRegOf_isSome]
  omega

theorem atOffset_undefined {off : Nat} (h : hostRegOf off = none) (access : HostReg → State) :
    atOffset off access = .refused (.undefinedOffset off) := by
  simp [atOffset, h]

/-- Registers 13 to 15 are the reserved ones (10_state.md R46). -/
theorem hostRegOf_reserved {off : Nat} (h : off = 0x68 ∨ off = 0x70 ∨ off = 0x78) :
    hostRegOf off = some .reserved := by
  rcases h with rfl | rfl | rfl <;> rfl

/-- A reserved register reads 0, whether the block is busy or not. -/
theorem hostRegRead_reserved (s : State) : hostRegRead .reserved s = s.setRdata 0 := by
  simp [hostRegRead, HostReg.freeWhileBusy, hostRegValue]

/-- Settles O12, by where the register map is defined. -/
theorem undefinedOffsetsAreRefused : Obligations.UndefinedOffsetsAreRefused := by
  intro s off width v rest
  refine ⟨fun hoff => ⟨fun hi => ?_, fun hi => ?_⟩, fun hoff => ⟨fun hb hi => ?_, fun hi => ?_⟩,
    fun hi => step_of_hostOp hi (.inr nofun), fun halign hoff hi => ?_⟩
  · exact (step_of_hostOp hi (.inr nofun)).trans (atOffset_undefined (hostRegOf_eq_none hoff) _)
  · exact (step_of_hostOp hi (.inr nofun)).trans (atOffset_undefined (hostRegOf_eq_none hoff) _)
  · exact step_of_idle_regWrite .reserved hb hi (hostRegOf_reserved hoff)
  · rw [step_of_regRead hi (hostRegOf_reserved hoff), hostRegRead_reserved]
    rfl
  · obtain ⟨r, hr⟩ := Option.isSome_iff_exists.1 ((hostRegOf_isSome off).2 ⟨halign, hoff⟩)
    rcases hi with hi | hi
    · exact ⟨_, step_of_regWrite hi hr⟩
    · exact ⟨_, step_of_regRead hi hr⟩

/-! ### Reset -/

/-- Settles O15: the fields of the reset state, and the words of CTRL, STATUS and OBU_INFO there. -/
theorem resetValues : Obligations.ResetValues := by
  refine ⟨rfl, rfl, rfl, rfl, rfl, rfl, ?ctrl, ?status, rfl, rfl, rfl, ?info, rfl, rfl, rfl, rfl⟩
  case ctrl => exact eq_ofNat_of_toNat_eq (ctrlWord_toNat State.reset)
  case status => exact eq_ofNat_of_toNat_eq (statusWord_toNat State.reset)
  case info => exact eq_ofNat_of_toNat_eq (ObuInfo.word_toNat State.reset.obu.info)

end Sys2Proof.Machine
end

section
/-! The source memory and the session (20_memory.md R50 to R52 and R62): the host's writes, one source read, BIND. -/

namespace Sys2Proof.Machine

/-- Settles O13: the step is the host's write, of one byte of the memory and at most one noted address. -/
theorem sourceWriteChangesOneByte : Obligations.SourceWriteChangesOneByte := by
  intro s a b rest hm hi
  refine ⟨(s.setInbox rest).srcWrite a b, step_of_hostOp hi (.inr nofun), rfl, memRead_memWrite hm a.toNat b,
    fun x => ?_⟩
  rw [State.srcWrite_tainted]
  split
  next hin =>
    have hwin := State.inWindow_iff.1 hin
    rw [List.mem_insert_iff]
    constructor
    · rintro (rfl | hx)
      · exact .inr ⟨rfl, hwin⟩
      · exact .inl hx
    · rintro (hx | ⟨rfl, -⟩)
      · exact .inr hx
      · exact .inl rfl
  next hin =>
    refine ⟨.inl, ?_⟩
    rintro (hx | ⟨rfl, hwin⟩)
    · exact hx
    · exact absurd (State.inWindow_iff.2 hwin) hin

/-- SESS_BASE + FOFF on the 32 address lines (assumption 17). -/
theorem State.srcAddr_eq_mod (s : State) : s.srcAddr = (s.sessBase.toNat + s.cur.foff.toNat) % 2 ^ 32 :=
  BitVec.toNat_add _ _

theorem srcRead_of_data {s : State} (h : s.answerAt 0 = .data) : srcRead s = .ok s.srcByte s.nextAnswer := by
  simp [srcRead, h]

theorem srcRead_of_err {s : State} (h : s.answerAt 0 = .err) : srcRead s = .raise .sourceError s.nextAnswer := by
  simp [srcRead, h]

theorem srcRead_of_never {s : State} (h : s.answerAt 0 = .never) : srcRead s = .stuck := by
  simp [srcRead, h]

theorem State.srcByte_of_not_mem {s : State} (h : s.srcAddr ∉ s.tainted) : s.srcByte = memRead s.mem s.srcAddr :=
  if_neg h

theorem State.srcByte_of_mem {s : State} (h : s.srcAddr ∈ s.tainted) : s.srcByte = Config.racyByte s.draws :=
  if_pos h

/-- Settles O14, by what the read answers and whose byte it is. -/
theorem sourceReadAnswersMemoryOrAnyValue : Obligations.SourceReadAnswersMemoryOrAnyValue := by
  intro s
  rw [← s.srcAddr_eq_mod]
  refine ⟨fun ha hmem => ?_, fun ha hmem => ⟨Config.racyByte s.draws, ?_, fun m => ?_⟩, srcRead_of_err⟩
  · rw [srcRead_of_data ha, State.srcByte_of_not_mem hmem]
    rfl
  · rw [srcRead_of_data ha, State.srcByte_of_mem hmem]
    rfl
  · rw [srcRead_of_data (s := { s with mem := m }) ha, State.srcByte_of_mem (s := { s with mem := m }) hmem]
    rfl

/-- BIND opens a session on a legal window, and is illegal otherwise (43_session.md R150). -/
theorem exec_bind_eq (s : State) :
    exec .bind s =
      .next (if legalWindow s then s.checkpoint.openSession.succeedNoValue else s.failWith .illegalCommand) := by
  show command (legalWindow s) bodyBind s = _
  unfold command
  split <;> rfl

/-- Settles O33, by the two ends of BIND. -/
theorem bindForgetsTheHostsWrites : Obligations.BindForgetsTheHostsWrites := by
  intro s t h
  rw [exec_bind_eq] at h
  cases h
  split
  · exact ⟨fun _ => rfl, fun he => absurd rfl he⟩
  · exact ⟨fun he => (by cases he), fun _ => rfl⟩

end Sys2Proof.Machine
end

section
/-! Refill and `take` (20_memory.md R54 to R56): how each ends, by the source's answers, and the bits each leaves. -/

namespace Sys2Proof.Machine

/-! ### One fetched byte -/

/-- The state after the `j`-th byte of a refill is fetched and loaded (20_memory.md R54). -/
def State.fetchByte (s : State) (j : Nat) : State :=
  (s.setFsm (.fill (Fin.ofNat 4 j))).nextAnswer.setCur (s.cur.loadByte j s.srcByte)

section
variable (s : State) (j : Nat)

@[simp] theorem State.fetchByte_cur : (s.fetchByte j).cur = s.cur.loadByte j s.srcByte := rfl
@[simp] theorem State.fetchByte_sessLen : (s.fetchByte j).sessLen = s.sessLen := rfl
@[simp] theorem State.fetchByte_srcScript : (s.fetchByte j).srcScript = s.srcScript.tail := rfl
@[simp] theorem State.fetchByte_draws : (s.fetchByte j).draws = s.draws + 1 := rfl

@[simp] theorem State.answerAt_fetchByte (k : Nat) : (s.fetchByte j).answerAt k = s.answerAt (k + 1) :=
  State.answerAt_nextAnswer s k

end

@[simp] theorem State.answerAt_setFsm (s : State) (f : RefillFsm) (k : Nat) : (s.setFsm f).answerAt k = s.answerAt k :=
  rfl

@[simp] theorem State.srcByte_setFsm (s : State) (f : RefillFsm) : (s.setFsm f).srcByte = s.srcByte := rfl

theorem fillFrom_succ_of_end {s : State} (h : s.cur.foff = s.sessLen) (k j : Nat) :
    fillFrom (k + 1) j s = .ok () (s.markExhausted.endRefill j) := by
  simp [fillFrom, h]

theorem fillFrom_succ_of_data {s : State} (h : s.cur.foff ≠ s.sessLen) (ha : s.answerAt 0 = .data) (k j : Nat) :
    fillFrom (k + 1) j s = fillFrom k (j + 1) (s.fetchByte j) := by
  simp [fillFrom, h, srcRead_of_data, ha, State.fetchByte]

theorem fillFrom_succ_of_err {s : State} (h : s.cur.foff ≠ s.sessLen) (ha : s.answerAt 0 = .err) (k j : Nat) :
    fillFrom (k + 1) j s = .raise .sourceError (s.setFsm (.fill (Fin.ofNat 4 j))).nextAnswer := by
  simp [fillFrom, h, srcRead_of_err, ha]

theorem fillFrom_succ_of_never {s : State} (h : s.cur.foff ≠ s.sessLen) (ha : s.answerAt 0 = .never) (k j : Nat) :
    fillFrom (k + 1) j s = .stuck := by
  simp [fillFrom, h, srcRead_of_never, ha]

/-! ### The bytes still to be fetched -/

/-- FOFF is inside the window (10_state.md R26). -/
def State.InRange (s : State) : Prop := s.cur.foff.toNat ≤ s.sessLen.toNat

theorem State.unfetched_eq_zero {s : State} (h : s.cur.foff = s.sessLen) : s.unfetched = 0 := by
  rw [State.unfetched, h]; omega

theorem State.InRange.unfetched_pos {s : State} (hs : s.InRange) (h : s.cur.foff ≠ s.sessLen) : 0 < s.unfetched := by
  have hne : s.cur.foff.toNat ≠ s.sessLen.toNat := fun he => h (BitVec.eq_of_toNat_eq he)
  unfold State.InRange at hs
  unfold State.unfetched
  omega

theorem State.foff_fetchByte {s : State} (hs : s.InRange) (h : s.cur.foff ≠ s.sessLen) (j : Nat) :
    (s.fetchByte j).cur.foff.toNat = s.cur.foff.toNat + 1 := by
  have hpos := hs.unfetched_pos h
  have := s.sessLen.isLt
  unfold State.unfetched at hpos
  simp only [State.fetchByte_cur, Cursor.loadByte, BitVec.toNat_add, BitVec.ofNat_eq_ofNat, BitVec.toNat_ofNat]
  omega

theorem State.unfetched_fetchByte {s : State} (hs : s.InRange) (h : s.cur.foff ≠ s.sessLen) (j : Nat) :
    (s.fetchByte j).unfetched = s.unfetched - 1 := by
  rw [State.unfetched, State.foff_fetchByte hs h, State.fetchByte_sessLen, State.unfetched]
  omega

theorem State.InRange.fetchByte {s : State} (hs : s.InRange) (h : s.cur.foff ≠ s.sessLen) (j : Nat) :
    (s.fetchByte j).InRange := by
  have hpos := hs.unfetched_pos h
  unfold State.unfetched at hpos
  rw [State.InRange, State.foff_fetchByte hs h, State.fetchByte_sessLen]
  omega

theorem State.FirstOddAnswer.of_fetchByte {s : State} {j i : Nat} {a : SrcAnswer} (ha : s.answerAt 0 = .data)
    (h : (s.fetchByte j).FirstOddAnswer i a) : s.FirstOddAnswer (i + 1) a := by
  obtain ⟨hi, hodd, hlt⟩ := h
  refine ⟨by simpa using hi, hodd, fun k hk => ?_⟩
  cases k with
  | zero => exact ha
  | succ k => simpa using hlt k (by omega)

/-! ### How a refill ends -/

/-- The state `t` after a refill that had loaded `j` bytes in `s`, tried `k` more and found `n` of them
(20_memory.md R54). -/
structure Filled (s : State) (j k n : Nat) (t : State) : Prop where
  valid : t.cur.valid.toNat = 8 * (j + n)
  foff : t.cur.foff.toNat = s.cur.foff.toNat + n
  exh : t.cur.exh = (s.cur.exh || decide (s.unfetched < k))
  idle : t.fsm = .idle
  frame : t = { s with cur := t.cur, fsm := t.fsm, srcScript := s.srcScript.drop n, draws := s.draws + n }

/-- The three ways a refill ends, by the answers to the `n` reads it makes. -/
inductive FillEnds (s : State) (j k n : Nat) : Res Unit → Prop where
  | filled (t : State) (ha : ∀ i, i < n → s.answerAt i = .data) (h : Filled s j k n t) : FillEnds s j k n (.ok () t)
  | failed (i : Nat) (t : State) (hi : i < n) (ho : s.FirstOddAnswer i .err) (hd : t.draws = s.draws + i + 1) :
      FillEnds s j k n (.raise .sourceError t)
  | never (i : Nat) (hi : i < n) (ho : s.FirstOddAnswer i .never) : FillEnds s j k n .stuck

/-- One more byte at the front of a refill. -/
theorem FillEnds.of_fetchByte {s : State} {j k n : Nat} {r : Res Unit} (hs : s.InRange) (hmore : s.cur.foff ≠ s.sessLen)
    (ha : s.answerAt 0 = .data) (h : FillEnds (s.fetchByte j) (j + 1) k n r) : FillEnds s j (k + 1) (n + 1) r := by
  cases h with
  | filled t hall h =>
    refine .filled t (fun i hi => ?_) ⟨?_, ?_, ?_, h.idle, ?_⟩
    · cases i with
      | zero => exact ha
      | succ i => simpa using hall i (by omega)
    · rw [h.valid]; omega
    · rw [h.foff, State.foff_fetchByte hs hmore]; omega
    · have hpos := hs.unfetched_pos hmore
      rw [h.exh, State.unfetched_fetchByte hs hmore]
      congr 1
      exact decide_eq_decide.2 (by omega)
    · rw [h.frame]
      simp [State.fetchByte, State.setCur, State.nextAnswer, State.setFsm, Nat.add_assoc, Nat.add_comm 1 n]
  | failed i t hi ho hd =>
    exact .failed (i + 1) t (by omega) (ho.of_fetchByte ha) (by rw [hd, State.fetchByte_draws]; omega)
  | never i hi ho => exact .never (i + 1) (by omega) (ho.of_fetchByte ha)

theorem fillFrom_cases {k j : Nat} (hkj : j + k = 4) {s : State} (hs : s.InRange) :
    FillEnds s j k (min k s.unfetched) (fillFrom k j s) := by
  induction k generalizing j s with
  | zero =>
    refine .filled _ (by simp) ⟨?_, ?_, ?_, rfl, ?_⟩
    · simp; omega
    · simp
    · simp
    · simp [State.endRefill, State.setCur, State.setFsm]
  | succ k ih =>
    by_cases hend : s.cur.foff = s.sessLen
    · have h0 := State.unfetched_eq_zero hend
      rw [fillFrom_succ_of_end hend, h0]
      refine .filled _ (by simp) ⟨?_, ?_, ?_, rfl, ?_⟩
      · simp; omega
      · simp
      · simp [h0]
      · simp [State.endRefill, State.markExhausted, State.setCur, State.setFsm]
    · have hpos := hs.unfetched_pos hend
      cases ha : s.answerAt 0 with
      | data =>
        have h := ih (j := j + 1) (by omega) (hs.fetchByte hend j)
        have hn : min k (s.fetchByte j).unfetched + 1 = min (k + 1) s.unfetched := by
          rw [State.unfetched_fetchByte hs hend]; omega
        rw [fillFrom_succ_of_data hend ha, ← hn]
        exact h.of_fetchByte hs hend ha
      | err =>
        rw [fillFrom_succ_of_err hend ha]
        exact .failed 0 _ (by omega) ⟨ha, by decide, by simp⟩ rfl
      | never =>
        rw [fillFrom_succ_of_never hend ha]
        exact .never 0 (by omega) ⟨ha, by decide, by simp⟩

/-- A refill starts with ACC cleared, which nothing in its account depends on. -/
theorem FillEnds.of_cleared {s : State} {n : Nat} {r : Res Unit}
    (h : FillEnds (s.setCur { s.cur with acc := 0 }) 0 4 n r) : FillEnds s 0 4 n r := by
  cases h with
  | filled t ha h => exact .filled t ha ⟨h.valid, h.foff, h.exh, h.idle, h.frame⟩
  | failed i t hi ho hd => exact .failed i t hi ho hd
  | never i hi ho => exact .never i hi ho

theorem refill_cases {s : State} (hs : s.InRange) : FillEnds s 0 4 (min 4 s.unfetched) (refill s) :=
  (fillFrom_cases (s := s.setCur { s.cur with acc := 0 }) rfl hs).of_cleared

theorem State.FirstOddAnswer.ne_data {s : State} {j : Nat} {a : SrcAnswer} (h : s.FirstOddAnswer j a) :
    s.answerAt j ≠ .data := by
  obtain ⟨ha, hodd, -⟩ := h
  rwa [ha]

/-- Two accounts of the first odd answer agree. -/
theorem State.FirstOddAnswer.unique {s : State} {i j : Nat} {a b : SrcAnswer} (hi : s.FirstOddAnswer i a)
    (hj : s.FirstOddAnswer j b) : i = j ∧ a = b := by
  obtain ⟨hai, hodda, hlti⟩ := hi
  obtain ⟨hbj, hoddb, hltj⟩ := hj
  rcases Nat.lt_trichotomy i j with h | h | h
  · exact absurd (hai.symm.trans (hltj i h)) hodda
  · exact ⟨h, by rw [← hai, ← hbj, h]⟩
  · exact absurd (hbj.symm.trans (hlti j h)) hoddb

theorem refill_of_answers {s : State} (hs : s.InRange) (h : s.SourceAnswers 4) :
    ∃ t, refill s = .ok () t ∧ Filled s 0 4 (min 4 s.unfetched) t := by
  cases hr : refill s <;> cases hr ▸ refill_cases hs
  next t _ ht => exact ⟨t, rfl, ht⟩
  next i hi ho _ => exact absurd (h i hi) ho.ne_data
  next i hi ho => exact absurd (h i hi) ho.ne_data

theorem refill_of_err {s : State} {k : Nat} (hs : s.InRange) (hk : k < min 4 s.unfetched)
    (h : s.FirstOddAnswer k .err) : ∃ t, refill s = .raise .sourceError t ∧ t.draws = s.draws + k + 1 := by
  cases hr : refill s <;> cases hr ▸ refill_cases hs
  next t ha _ => exact absurd (ha k hk) h.ne_data
  next t i hi ho hd => exact ⟨t, rfl, by rw [hd, (ho.unique h).1]⟩
  next i hi ho => cases (ho.unique h).2

/-! ### The bits of ACC -/

theorem bitsVal_map_getMsbD {w : Nat} (x : BitVec w) {n : Nat} (h : n ≤ w) :
    bitsVal ((List.range n).map x.getMsbD) = x.toNat >>> (w - n) := by
  induction n with
  | zero => simp [Nat.shiftRight_eq_div_pow, Nat.div_eq_of_lt x.isLt]
  | succ n ih =>
    have hbit : x.getMsbD n = x.toNat.testBit (w - (n + 1)) := by
      rw [BitVec.getMsbD_eq_getLsbD, decide_eq_true (by omega), Bool.true_and, BitVec.getLsbD,
        Nat.sub_sub, Nat.add_comm 1 n]
    have hw : w - n = w - (n + 1) + 1 := by omega
    rw [List.range_succ, List.map_append, bitsVal_append, ih (by omega), hw, Nat.shiftRight_succ, List.map_singleton,
      bitsVal_cons, hbit, Nat.toNat_testBit, Nat.shiftRight_eq_div_pow]
    simp
    omega

/-- The first `n` bits of ACC. -/
def Cursor.topBits (c : Cursor) (n : Nat) : List Bool := (List.range n).map c.acc.getMsbD

theorem Cursor.bits_eq_topBits (c : Cursor) : c.bits = c.topBits c.valid.toNat := rfl

theorem Cursor.take_bits (c : Cursor) {n : Nat} (h : n ≤ c.valid.toNat) : c.bits.take n = c.topBits n := by
  rw [Cursor.bits, ← List.map_take, List.take_range, Nat.min_eq_left h, Cursor.topBits]

theorem Cursor.top_eq_bitsVal (c : Cursor) {n : Nat} (h : n ≤ 32) : c.top n = bitsVal (c.topBits n) :=
  (bitsVal_map_getMsbD c.acc h).symm

theorem Cursor.drop_valid (c : Cursor) {n : Nat} (h : n ≤ c.valid.toNat) :
    (c.drop n).valid.toNat = c.valid.toNat - n := by
  rw [Cursor.drop, BitVec.toNat_sub, BitVec.toNat_ofNat]
  omega

theorem Cursor.drop_bits (c : Cursor) {n : Nat} (h : n ≤ c.valid.toNat) : (c.drop n).bits = c.bits.drop n := by
  have hsplit : c.valid.toNat = n + (c.valid.toNat - n) := by omega
  rw [Cursor.bits, c.drop_valid h, Cursor.bits, hsplit, List.range_add, List.map_append, List.drop_left' (by simp)]
  simp [Cursor.drop, Nat.add_comm]

/-- No bit of ACC is set from place `v` on, counted from the top. -/
def Cursor.BlankFrom (c : Cursor) (v : Nat) : Prop := ∀ i, v ≤ i → c.acc.getMsbD i = false

theorem Cursor.BlankFrom.acc_mod {c : Cursor} {v : Nat} (h : c.BlankFrom v) : c.acc.toNat % 2 ^ (32 - v) = 0 := by
  apply Nat.eq_of_testBit_eq
  intro i
  rw [Nat.testBit_mod_two_pow, Nat.zero_testBit, ← BitVec.getLsbD, BitVec.getLsbD_eq_getMsbD]
  by_cases hi : i < 32 - v
  · rw [h (32 - 1 - i) (by omega), Bool.and_false, Bool.and_false]
  · rw [decide_eq_false hi, Bool.false_and]

theorem Cursor.getMsbD_loadByte (c : Cursor) {j : Nat} (hj : j < 4) (b : Byte) (i : Nat) :
    (c.loadByte j b).acc.getMsbD i = (c.acc.getMsbD i || (decide (8 * j ≤ i) && b.getMsbD (i - 8 * j))) := by
  have hle : 32 - 8 ≤ i + (24 - 8 * j) ↔ 8 * j ≤ i := by omega
  have hsub : i + (24 - 8 * j) + 8 - 32 = i - 8 * j := by omega
  rw [Cursor.loadByte, BitVec.getMsbD_or, BitVec.getMsbD_shiftLeft, BitVec.getMsbD_setWidth, hsub,
    decide_eq_decide.2 hle]

theorem Cursor.BlankFrom.loadByte {c : Cursor} {j : Nat} (hj : j < 4) (h : c.BlankFrom (8 * j)) (b : Byte) :
    (c.loadByte j b).BlankFrom (8 * (j + 1)) := by
  intro i hi
  rw [c.getMsbD_loadByte hj, h i (by omega), BitVec.getMsbD_of_ge b _ (by omega), Bool.and_false, Bool.or_false]

/-- A loaded byte stands below the bits that were there. -/
theorem Cursor.BlankFrom.topBits_loadByte {c : Cursor} {j : Nat} (hj : j < 4) (h : c.BlankFrom (8 * j)) (b : Byte) :
    (c.loadByte j b).topBits (8 * (j + 1)) = c.topBits (8 * j) ++ byteBits b := by
  rw [Cursor.topBits, Nat.mul_add, List.range_add, List.map_append, List.map_map]
  congr 1
  · refine List.map_congr_left fun i hi => ?_
    have hi : ¬ 8 * j ≤ i := by simpa using hi
    rw [c.getMsbD_loadByte hj, decide_eq_false hi, Bool.false_and, Bool.or_false]
  · refine List.map_congr_left fun i _ => ?_
    rw [Function.comp_apply, c.getMsbD_loadByte hj, h _ (by omega), decide_eq_true (by omega), Bool.true_and,
      Bool.false_or, Nat.add_sub_cancel_left]

/-! ### The bits a refill loads -/

/-- The window lies inside the source space, and so does FOFF inside the window (10_state.md R24 and R26). -/
def State.WindowOk (s : State) : Prop := s.InRange ∧ s.sessBase.toNat + s.sessLen.toNat ≤ 2 ^ 32

theorem State.WindowOk.fetchByte {s : State} (hs : s.WindowOk) (h : s.cur.foff ≠ s.sessLen) (j : Nat) :
    (s.fetchByte j).WindowOk := ⟨hs.1.fetchByte h j, hs.2⟩

theorem State.WindowOk.srcAddr_eq {s : State} (hs : s.WindowOk) (h : s.cur.foff ≠ s.sessLen) :
    s.srcAddr = s.sessBase.toNat + s.cur.foff.toNat := by
  obtain ⟨hin, hw⟩ := hs
  have hpos := hin.unfetched_pos h
  unfold State.unfetched at hpos
  rw [s.srcAddr_eq_mod, Nat.mod_eq_of_lt (by omega)]

theorem State.WindowOk.srcByte_eq {s : State} (hs : s.WindowOk) (h : s.cur.foff ≠ s.sessLen) (hu : s.Undisturbed) :
    s.srcByte = memRead s.mem (s.sessBase.toNat + s.cur.foff.toNat) := by
  have ha := hs.srcAddr_eq h
  rw [State.srcByte_of_not_mem, ha]
  intro hmem
  exact absurd (hu _ hmem) (by omega)

theorem State.Undisturbed.of_foff_le {s t : State} (h : s.Undisturbed) (ht : t.tainted = s.tainted)
    (hb : t.sessBase = s.sessBase) (hf : s.cur.foff.toNat ≤ t.cur.foff.toNat) : t.Undisturbed := by
  intro a ha
  have := h a (ht ▸ ha)
  rw [hb]
  omega

theorem State.bits_endRefill (s : State) {j : Nat} (hj : j ≤ 4) : (s.endRefill j).cur.bits = s.cur.topBits (8 * j) := by
  have hvalid : (BitVec.ofNat 6 (8 * j)).toNat = 8 * j := by rw [BitVec.toNat_ofNat]; omega
  rw [Cursor.bits_eq_topBits, State.endRefill_cur, hvalid]
  rfl

theorem fillFrom_bits {k j : Nat} (hkj : j + k = 4) {s : State} (hs : s.WindowOk) (hu : s.Undisturbed)
    (hblank : s.cur.BlankFrom (8 * j)) :
    (fillFrom k j s).Ends
      (fun _ t => t.cur.bits = s.cur.topBits (8 * j) ++
          windowBits s.mem (s.sessBase.toNat + s.cur.foff.toNat) (min k s.unfetched) ∧
        t.cur.BlankFrom (8 * (j + min k s.unfetched)))
      fun _ _ => True := by
  induction k generalizing j s with
  | zero =>
    rw [Nat.zero_min]
    exact ⟨(s.bits_endRefill (by omega)).trans (by simp [windowBits]), hblank⟩
  | succ k ih =>
    by_cases hend : s.cur.foff = s.sessLen
    · rw [fillFrom_succ_of_end hend, State.unfetched_eq_zero hend, Nat.min_zero]
      exact ⟨(s.markExhausted.bits_endRefill (by omega)).trans (by simp [windowBits, Cursor.topBits]), hblank⟩
    · have hpos := hs.1.unfetched_pos hend
      have hn : min (k + 1) s.unfetched = min k (s.fetchByte j).unfetched + 1 := by
        rw [State.unfetched_fetchByte hs.1 hend]; omega
      have hfoff := State.foff_fetchByte hs.1 hend j
      cases ha : s.answerAt 0 with
      | data =>
        rw [fillFrom_succ_of_data hend ha, hn]
        refine (ih (j := j + 1) (by omega) (hs.fetchByte hend j) (hu.of_foff_le rfl rfl (by omega))
          (hblank.loadByte (by omega) _)).mono (fun _ t ⟨hbits, hblank'⟩ => ⟨?_, ?_⟩) fun _ _ _ => trivial
        · rw [hbits, hfoff, State.fetchByte_cur, hblank.topBits_loadByte (by omega), hs.srcByte_eq hend hu,
            List.append_assoc]
          rfl
        · rwa [Nat.add_assoc, Nat.add_comm 1] at hblank'
      | err => rw [fillFrom_succ_of_err hend ha]; trivial
      | never => rw [fillFrom_succ_of_never hend ha]; trivial

theorem refill_bits {s t : State} (hs : s.WindowOk) (hu : s.Undisturbed) (h : refill s = .ok () t) :
    t.cur.bits = windowBits s.mem (s.sessBase.toNat + s.cur.foff.toNat) (min 4 s.unfetched) ∧
      t.cur.BlankFrom (8 * min 4 s.unfetched) := by
  have hends := fillFrom_bits (j := 0) (k := 4) rfl (s := s.setCur { s.cur with acc := 0 }) hs hu
    (fun i _ => by simp)
  rw [show fillFrom 4 0 (s.setCur { s.cur with acc := 0 }) = .ok () t from h] at hends
  obtain ⟨hbits, hblank⟩ := hends
  rw [Nat.zero_add] at hblank
  exact ⟨hbits, hblank⟩

/-- Settles O19, by the ways a refill ends and the bits it leaves. -/
theorem refillLoadsUpToFourBytes : Obligations.RefillLoadsUpToFourBytes := by
  intro s hin hw hu
  refine ⟨fun hans => ?_, fun k hk hodd => refill_of_err hin hk hodd, fun hexh n => ?_⟩
  · obtain ⟨t, hr, h⟩ := refill_of_answers hin hans
    obtain ⟨hbits, hblank⟩ := refill_bits ⟨hin, hw⟩ hu hr
    exact ⟨t, hr, by simpa using h.valid, h.foff, h.exh, h.idle, hbits, hblank.acc_mod, h.frame⟩
  · rcases take_cases n s with ⟨rfl, -⟩ | ⟨-, hn, -⟩ | ⟨-, -, h⟩ | ⟨-, he, -⟩
    · exact .inl (Nat.zero_le _)
    · exact .inl hn
    · exact .inr h
    · simp [hexh] at he

end Sys2Proof.Machine
end

section
/-! `take` on the unread bit sequence (20_memory.md R55 and R56). -/

namespace Sys2Proof.Machine

theorem State.unread_setCur_drop (s : State) {n : Nat} (h : n ≤ s.cur.valid.toNat) :
    (s.setCur (s.cur.drop n)).unread = s.unread.drop n := by
  rw [State.unread, State.setCur_cur, s.cur.drop_bits h, State.unread, List.drop_append_of_le_length (by simpa)]
  rfl

theorem State.top_eq_bitsVal (s : State) {n : Nat} (h : n ≤ s.cur.valid.toNat) (h32 : n ≤ 32) :
    s.cur.top n = bitsVal (s.unread.take n) := by
  rw [s.cur.top_eq_bitsVal h32, State.unread, List.take_append_of_le_length (by simpa), s.cur.take_bits h]

/-- A refill that loads the next bytes of the window leaves what is unread below the bits held before. -/
theorem Filled.unread_eq {s t : State} (h : Filled s 0 4 (min 4 s.unfetched) t)
    (hbits : t.cur.bits = windowBits s.mem (s.sessBase.toNat + s.cur.foff.toNat) (min 4 s.unfetched)) :
    s.unread = s.cur.bits ++ t.unread := by
  have hfoff := h.foff
  have hmem : t.mem = s.mem := by rw [h.frame]
  have hbase : t.sessBase = s.sessBase := by rw [h.frame]
  have hlen : t.sessLen = s.sessLen := by rw [h.frame]
  have hrest : s.unfetched = min 4 s.unfetched + t.unfetched := by
    unfold State.unfetched at *
    rw [hlen]
    omega
  rw [State.unread, State.unread, hbits, hmem, hbase, hfoff, ← Nat.add_assoc, ← windowBits_append, ← hrest]

/-- The bits held and the bits of a refill, put together (20_memory.md R55). -/
theorem top_shiftLeft_or_top {s t : State} {n : Nat} (hu : s.unread = s.cur.bits ++ t.unread) (hn : n ≤ 32)
    (hv : s.cur.valid.toNat < n) (ht : n - s.cur.valid.toNat ≤ t.cur.valid.toNat) :
    (s.cur.top s.cur.valid.toNat <<< (n - s.cur.valid.toNat)) ||| t.cur.top (n - s.cur.valid.toNat) =
      bitsVal (s.unread.take n) := by
  have htake : s.unread.take n = s.cur.bits ++ t.unread.take (n - s.cur.valid.toNat) := by
    rw [hu, List.take_append, List.take_of_length_le (by simp; omega), Cursor.bits_length]
  have hlen : (t.unread.take (n - s.cur.valid.toNat)).length = n - s.cur.valid.toNat := by
    rw [List.length_take, State.unread_length]
    omega
  rw [htake, bitsVal_append, hlen, s.cur.top_eq_bitsVal (by omega), ← Cursor.bits_eq_topBits,
    ← Nat.shiftLeft_add_eq_or_of_lt (t.cur.top_lt (by omega)), Nat.shiftLeft_eq, t.top_eq_bitsVal ht (by omega)]

/-! ### How `take` ends -/

@[simp] theorem Cursor.drop_zero (c : Cursor) : c.drop 0 = c := by
  simp [Cursor.drop]

theorem take_of_held {n : Nat} {s : State} (h : n ≤ s.cur.valid.toNat) :
    take n s = .ok (s.cur.top n) (s.setCur (s.cur.drop n)) := by
  rcases take_cases n s with ⟨rfl, e⟩ | ⟨-, -, e⟩ | ⟨hlt, -⟩ | ⟨hlt, -⟩
  · have htop : s.cur.top 0 = 0 := by have := s.cur.top_lt (n := 0) (by omega); omega
    rw [e, htop, Cursor.drop_zero]
    rfl
  · exact e
  · omega
  · omega

theorem take_of_exhausted {n : Nat} {s : State} (h : s.cur.valid.toNat < n) (he : s.cur.exh = true) :
    take n s = .raise .endOfStream s := by
  rcases take_cases n s with ⟨rfl, -⟩ | ⟨-, hle, -⟩ | ⟨-, -, e⟩ | ⟨-, he', -⟩
  · omega
  · omega
  · exact e
  · simp [he] at he'

/-- `take` after its refill: the `need` bits still lacking go below the value `hi` of the bits that were held
(20_memory.md R55). -/
def takeRest (hi need : Nat) (s : State) : Res Nat :=
  if s.cur.valid.toNat < need then .raise .endOfStream s
  else .ok ((hi <<< need) ||| s.cur.top need) (s.setCur (s.cur.drop need))

theorem takeRest_of_lt {hi need : Nat} {s : State} (h : s.cur.valid.toNat < need) :
    takeRest hi need s = .raise .endOfStream s := if_pos h

theorem takeRest_of_le {hi need : Nat} {s : State} (h : need ≤ s.cur.valid.toNat) :
    takeRest hi need s = .ok ((hi <<< need) ||| s.cur.top need) (s.setCur (s.cur.drop need)) :=
  if_neg (Nat.not_lt.2 h)

theorem take_of_refill {n : Nat} {s : State} (h : s.cur.valid.toNat < n) (he : s.cur.exh = false) :
    take n s = (refill s).bind fun _ => takeRest (s.cur.top s.cur.valid.toNat) (n - s.cur.valid.toNat) := by
  rcases take_cases n s with ⟨rfl, -⟩ | ⟨-, hle, -⟩ | ⟨-, he', -⟩ | ⟨-, -, e⟩
  · omega
  · omega
  · simp [he] at he'
  · exact e

/-- The states `take n` can succeed in: the bits were held, or one refill supplied the rest. -/
theorem take_eq_ok {n v : Nat} {s t : State} (hs : s.InRange) (h : take n s = .ok v t) :
    (n ≤ s.cur.valid.toNat ∧ t = s.setCur (s.cur.drop n)) ∨
      (s.cur.valid.toNat < n ∧ s.cur.exh = false ∧ ∃ u, Filled s 0 4 (min 4 s.unfetched) u ∧
        n - s.cur.valid.toNat ≤ u.cur.valid.toNat ∧ t = u.setCur (u.cur.drop (n - s.cur.valid.toNat))) := by
  by_cases hv : n ≤ s.cur.valid.toNat
  · rw [take_of_held hv] at h
    cases h
    exact .inl ⟨hv, rfl⟩
  · rw [Nat.not_le] at hv
    cases he : s.cur.exh
    · rw [take_of_refill hv he, Res.bind_eq_ok] at h
      obtain ⟨_, u, hr, h⟩ := h
      cases hr ▸ refill_cases hs with
      | filled u ha hf =>
        rcases Nat.lt_or_ge u.cur.valid.toNat (n - s.cur.valid.toNat) with hlt | hle
        · rw [takeRest_of_lt hlt] at h
          cases h
        · rw [takeRest_of_le hle] at h
          cases h
          exact .inr ⟨hv, rfl, u, hf, hle, rfl⟩
    · rw [take_of_exhausted hv he] at h
      cases h

theorem take_foff_le {n v : Nat} {s t : State} (hs : s.InRange) (h : take n s = .ok v t) :
    s.cur.foff.toNat ≤ t.cur.foff.toNat := by
  rcases take_eq_ok hs h with ⟨-, rfl⟩ | ⟨-, -, u, hu, -, rfl⟩
  · exact Nat.le_refl _
  · show s.cur.foff.toNat ≤ u.cur.foff.toNat
    rw [hu.foff]
    omega

theorem State.Inv.windowOk {s : State} (h : s.Inv) : s.WindowOk := by
  obtain ⟨⟨-, -, hin, -⟩, hw, -⟩ := h
  exact ⟨hin, hw⟩

/-- `take` keeps the invariant. -/
theorem State.Inv.take {n v : Nat} {s t : State} (hs : s.Inv) (hn : n ≤ 32) (h : take n s = .ok v t) : t.Inv := by
  obtain ⟨htidy, hsetup⟩ := State.inv_iff.1 hs
  have hends := take_ends hn s
  have hkeeps := take_tidy n htidy
  rw [h] at hends hkeeps
  obtain ⟨-, hreads, -⟩ := hends
  exact State.inv_iff.2 ⟨hkeeps, hreads.setupOk hsetup⟩

theorem State.Undisturbed.take {n v : Nat} {s t : State} (hu : s.Undisturbed) (hs : s.InRange) (hn : n ≤ 32)
    (h : take n s = .ok v t) : t.Undisturbed := by
  have hends := take_ends hn s
  rw [h] at hends
  obtain ⟨-, hreads, -⟩ := hends
  exact hu.of_foff_le (by rw [hreads]) (by rw [hreads]) (take_foff_le hs h)

theorem State.Inv.unfetched_of_exh {s : State} (hs : s.Inv) (he : s.cur.exh = true) : s.unfetched = 0 := by
  obtain ⟨⟨-, -, -, hexh, -⟩, -⟩ := hs
  exact State.unfetched_eq_zero (hexh he)

/-- With enough bits unread, `take n` returns the value of the first `n` and leaves the rest. -/
theorem take_of_le_unread {n : Nat} {s : State} (hn : n ≤ 32) (hs : s.Inv) (hu : s.Undisturbed)
    (hans : s.SourceAnswers 4) (hle : n ≤ s.unread.length) :
    ∃ t, take n s = .ok (bitsVal (s.unread.take n)) t ∧ t.unread = s.unread.drop n := by
  rw [State.unread_length] at hle
  by_cases hv : n ≤ s.cur.valid.toNat
  · exact ⟨_, by rw [take_of_held hv, s.top_eq_bitsVal hv hn], s.unread_setCur_drop hv⟩
  · rw [Nat.not_le] at hv
    cases he : s.cur.exh
    · obtain ⟨t, hr, ht⟩ := refill_of_answers hs.windowOk.1 hans
      have hunread := ht.unread_eq (refill_bits hs.windowOk hu hr).1
      have hneed : n - s.cur.valid.toNat ≤ t.cur.valid.toNat := by have := ht.valid; omega
      refine ⟨t.setCur (t.cur.drop (n - s.cur.valid.toNat)), ?_, ?_⟩
      · rw [take_of_refill hv he, hr, Res.ok_bind, takeRest_of_le hneed, top_shiftLeft_or_top hunread hn hv hneed]
      · rw [t.unread_setCur_drop hneed, hunread, List.drop_append,
          List.drop_of_length_le (l := s.cur.bits) (by simp; omega),
          Cursor.bits_length, List.nil_append]
    · have := hs.unfetched_of_exh he
      omega

theorem take_of_unread_lt {n : Nat} {s : State} (hs : s.InRange) (hans : s.SourceAnswers 4)
    (hlt : s.unread.length < n) : ∃ t, take n s = .raise .endOfStream t := by
  rw [State.unread_length] at hlt
  cases he : s.cur.exh
  · obtain ⟨t, hr, ht⟩ := refill_of_answers hs hans
    have hshort : t.cur.valid.toNat < n - s.cur.valid.toNat := by have := ht.valid; omega
    exact ⟨t, by rw [take_of_refill (by omega) he, hr, Res.ok_bind, takeRest_of_lt hshort]⟩
  · exact ⟨s, take_of_exhausted (by omega) he⟩

/-- Only a refill raises SourceError (60_exceptions.md R162). -/
theorem take_sourceError {n : Nat} {s t : State} (hs : s.InRange) (h : take n s = .raise .sourceError t) :
    s.cur.valid.toNat < n ∧ s.cur.exh = false ∧ s.cur.foff.toNat < s.sessLen.toNat := by
  by_cases hv : n ≤ s.cur.valid.toNat
  · rw [take_of_held hv] at h
    cases h
  · rw [Nat.not_le] at hv
    cases he : s.cur.exh
    · rw [take_of_refill hv he, Res.bind_eq_raise] at h
      rcases h with hr | ⟨-, u, -, h⟩
      · cases hr ▸ refill_cases hs with
        | failed i t hi ho hd =>
          refine ⟨hv, rfl, ?_⟩
          unfold State.unfetched at hi
          omega
      · unfold takeRest at h
        split at h <;> cases h
    · rw [take_of_exhausted hv he] at h
      cases h

/-- Settles O20: by the bits held, the bits of the refill, and what is left of the window. -/
theorem takeReturnsTheNextUnreadBits : Obligations.TakeReturnsTheNextUnreadBits := by
  intro n s hn hs hu
  refine ⟨fun hans hle => ?_, fun hans hlt => take_of_unread_lt hs.windowOk.1 hans hlt,
    fun t h => take_sourceError hs.windowOk.1 h⟩
  obtain ⟨t, ht, hunread⟩ := take_of_le_unread hn hs hu hans hle
  exact ⟨t, ht, hunread, hs.take hn ht, hu.take hs.windowOk.1 hn ht⟩

end Sys2Proof.Machine
end

section
/-! The shape that the bodies of all commands but BIND share: they move in the stream through `take` only. -/

namespace Sys2Proof.Machine

/-- A computation that moves in the stream by `take` alone. Beside that it may look at the cursor, the sampled policy
and the window's length, raise an error, and write the OBU registers. -/
inductive Parser : {α : Type} → (State → Res α) → Prop where
  | pure {α : Type} (v : α) : Parser fun s => .ok v s
  | raise {α : Type} (e : ErrCode) (he : e ≠ .none) : Parser fun s => (.raise e s : Res α)
  | take (n : Nat) (hn : n ≤ 32) : Parser (Machine.take n)
  | writeObu {α : Type} (v : α) (o : ObuRegs) (w : Bool) : Parser fun s => .ok v (s.writeObu o w)
  | look {α : Type} {p : Cursor → Bool → BitVec 32 → State → Res α} (h : ∀ c b l, Parser (p c b l)) :
      Parser fun s => p s.cur s.strictS s.sessLen s
  | bind {α β : Type} {p : State → Res α} {k : α → State → Res β} (hp : Parser p) (hk : ∀ v, Parser (k v)) :
      Parser fun s => (p s).bind k

theorem Parser.ite {α : Type} {c : Prop} [Decidable c] {p q : State → Res α} (hp : Parser p) (hq : Parser q) :
    Parser fun s => if c then p s else q s := by
  split
  · exact hp
  · exact hq

theorem ret_parser (v : Nat) : Parser (ret v) := .pure _

theorem onByteBoundary_parser {body : State → Res (Option Word)} (h : Parser body) : Parser (onByteBoundary body) :=
  .look (p := fun c _ _ s => if decide (c.valid.toNat % 8 = 0) then body s else .raise .misaligned s)
    fun _ _ _ => .ite h (.raise _ (by decide))

/-! ### The seven read commands -/

theorem bodyF_parser {n : BitVec 32} (h : legalBits n = true) : Parser (bodyF n) :=
  .bind (.take _ ((legalBits_iff n).1 h).2) ret_parser

theorem bodyF1_parser : Parser bodyF1 := .bind (.take 1 (by decide)) ret_parser

theorem uvlcRun_parser (fuel k : Nat) : Parser (uvlcRun fuel k) := by
  induction fuel generalizing k with
  | zero => exact .raise _ (by decide)
  | succ fuel ih => exact .bind (.take 1 (by decide)) fun b => .ite (.pure _) (ih _)

theorem uvlcTail_parser (k : Nat) : Parser (uvlcTail k) := by
  by_cases hk : 32 ≤ k
  · have h : uvlcTail k = ret Config.uvlcSat := funext fun s => if_pos hk
    exact h ▸ ret_parser _
  · have h : uvlcTail k = fun s => (take k s).bind fun suffix => ret (suffix + 2 ^ k - 1) :=
      funext fun s => if_neg hk
    exact h ▸ .bind (.take k (by omega)) fun _ => ret_parser _

theorem bodyUvlc_parser : Parser bodyUvlc := .bind (uvlcRun_parser _ 0) uvlcTail_parser

theorem leBytes_parser (m i v : Nat) : Parser (leBytes m i v) := by
  induction m generalizing i v with
  | zero => exact .pure _
  | succ m ih => exact .bind (.take 8 (by decide)) fun b => ih _ _

theorem bodyLe_parser (n : BitVec 32) : Parser (bodyLe n) :=
  onByteBoundary_parser (.bind (leBytes_parser _ 0 0) ret_parser)

theorem lebBytes_parser (m i v : Nat) : Parser (lebBytes m i v) := by
  induction m generalizing i v with
  | zero => exact .pure _
  | succ m ih => exact .bind (.take 8 (by decide)) fun b => .ite (.pure _) (ih _ _)

theorem bodyLeb128_parser : Parser bodyLeb128 :=
  onByteBoundary_parser (.bind (lebBytes_parser _ 0 0) fun v => ret_parser v.1)

theorem bodySu_parser {n : BitVec 32} (h : legalBits n = true) : Parser (bodySu n) :=
  .bind (.take _ ((legalBits_iff n).1 h).2) fun _ => .pure _

theorem bodyNs_parser (n : BitVec 32) : Parser (bodyNs n) :=
  .bind (.take _ (by have := nsWidth_le n; omega)) fun v =>
    .ite (ret_parser v) (.bind (.take 1 (by decide)) fun _ => ret_parser _)

/-! ### OBU_HDR -/

theorem checkReserved_parser (dirty : Bool) : Parser (checkReserved dirty) :=
  .look (p := fun _ b _ s => if dirty && b then .raise .malformedField s else .ok () s)
    fun _ _ _ => .ite (.raise _ (by decide)) (.pure _)

theorem readHeader_parser : Parser readHeader :=
  .bind (.take 8 (by decide)) fun _ => .bind (checkReserved_parser _) fun _ => .pure _

theorem readExt_parser (present : Bool) : Parser (readExt present) :=
  .ite (.bind (.take 8 (by decide)) fun _ => .bind (checkReserved_parser _) fun _ => .pure _) (.pure _)

theorem readSize_parser (present : Bool) : Parser (readSize present) :=
  .ite (lebBytes_parser _ 0 0) (.pure _)

theorem payloadLength_parser (hasSize : Bool) (size rem : Nat) : Parser (payloadLength hasSize size rem) :=
  .ite (.ite (.raise _ (by decide)) (.pure _)) (.pure _)

/-- The end of the header parse for a payload at byte `off` with `rem` bytes of the window from there on. -/
def frameObuAt (h : HeaderByte) (x : ExtByte) (sz : Nat × Nat) (off rem : Nat) (s : State) : Res (Option Word) :=
  (payloadLength h.hasSize sz.1 rem s).bind fun len s =>
    ret len (s.writeObu
      { info := obuInfoOf h x (1 + h.ext.toNat + sz.2), size := BitVec.ofNat 64 sz.1,
        payloadOff := BitVec.ofNat 32 off, payloadLen := BitVec.ofNat 64 len } (h.dirty || x.dirty))

theorem frameObu_eq (h : HeaderByte) (x : ExtByte) (sz : Nat × Nat) (s : State) :
    frameObu h x sz s = frameObuAt h x sz (s.pos / 8) (s.sessLen.toNat - s.pos / 8) s := rfl

theorem frameObuAt_parser (h : HeaderByte) (x : ExtByte) (sz : Nat × Nat) (off rem : Nat) :
    Parser (frameObuAt h x sz off rem) :=
  .bind (payloadLength_parser _ _ _) fun _ => .writeObu _ _ _

theorem frameObu_parser (h : HeaderByte) (x : ExtByte) (sz : Nat × Nat) : Parser (frameObu h x sz) := by
  rw [funext (frameObu_eq h x sz)]
  exact .look fun c _ l =>
    frameObuAt_parser h x sz ((8 * c.foff.toNat - c.valid.toNat) / 8) (l.toNat - (8 * c.foff.toNat - c.valid.toNat) / 8)

theorem bodyObuHdr_parser : Parser bodyObuHdr :=
  onByteBoundary_parser <| .bind readHeader_parser fun h => .bind (readExt_parser h.ext) fun x =>
    .bind (readSize_parser h.hasSize) fun sz => frameObu_parser h x sz

/-! ### Every command but BIND -/

/-- Every command but BIND is a range check on its ARG and, for a legal one, a parser. -/
theorem exec_eq_command {i : Instr} (hi : i ≠ .bind) :
    ∃ legal body, exec i = command legal body ∧ (legal = true → Parser body) := by
  cases i with
  | f n => exact ⟨_, _, rfl, bodyF_parser⟩
  | f1 => exact ⟨true, _, rfl, fun _ => bodyF1_parser⟩
  | uvlc => exact ⟨true, _, rfl, fun _ => bodyUvlc_parser⟩
  | le n => exact ⟨_, _, rfl, fun _ => bodyLe_parser n⟩
  | leb128 => exact ⟨true, _, rfl, fun _ => bodyLeb128_parser⟩
  | su n => exact ⟨_, _, rfl, bodySu_parser⟩
  | ns n => exact ⟨_, _, rfl, fun _ => bodyNs_parser n⟩
  | obuHdr => exact ⟨true, _, rfl, fun _ => bodyObuHdr_parser⟩
  | bind => exact absurd rfl hi

/-! ### What a parser keeps -/

/-- What `take` and writing the OBU registers keep, a parser keeps. -/
theorem Parser.ends {I : State → Prop} {Q : ErrCode → State → Prop} (hraise : ∀ e s, e ≠ .none → I s → Q e s)
    (htake : ∀ n s, n ≤ 32 → I s → (Machine.take n s).Ends (fun _ t => I t) Q)
    (hwrite : ∀ s o w, I s → I (s.writeObu o w)) {α : Type} {p : State → Res α} (hp : Parser p) (s : State) (hs : I s) :
    (p s).Ends (fun _ t => I t) Q := by
  induction hp generalizing s with
  | pure v => exact hs
  | raise e he => exact hraise e s he hs
  | take n hn => exact htake n s hn hs
  | writeObu v o w => exact hwrite s o w hs
  | look h ih => exact ih _ _ _ s hs
  | bind hp hk ihp ihk => exact (ihp s hs).bind fun v t ht => ihk v t ht

end Sys2Proof.Machine
end

section
/-! The reads are lazy (20_memory.md R54, R55 and R64). -/

namespace Sys2Proof.Machine

/-- What the reads of a command from `s` on keep: the cursor invariants, the window, and the fewest refills. -/
structure LazilyReads (s t : State) : Prop where
  tidy : t.Tidy
  sessLen : t.sessLen = s.sessLen
  refilled : s.LazilyRefilled t
  pos : s.pos ≤ t.pos

theorem LazilyReads.refl {s : State} (hs : s.Tidy) : LazilyReads s s := by
  refine ⟨hs, rfl, ?_, Nat.le_refl _⟩
  obtain ⟨⟨-, -, hlen, -⟩, -⟩ := hs
  have hq : (s.pos - 8 * s.cur.foff.toNat + 31) / 32 = 0 := by unfold State.pos; omega
  have hnot : ¬ s.sessLen.toNat < s.cur.foff.toNat := by omega
  simp only [State.LazilyRefilled, hq]
  simp [hnot, hlen]

/-- Dropping held bits moves POS by as many. -/
theorem State.pos_setCur_drop {s : State} {n : Nat} (hn : n ≤ s.cur.valid.toNat)
    (hv : s.cur.valid.toNat ≤ 8 * s.cur.foff.toNat) : (s.setCur (s.cur.drop n)).pos = s.pos + n := by
  simp only [State.pos, State.setCur_cur, s.cur.drop_valid hn]
  simp only [Cursor.drop]
  omega

/-- A refill leaves POS where the bytes fetched before it end. -/
theorem Filled.pos {s t : State} {n : Nat} (h : Filled s 0 4 n t) : t.pos = 8 * s.cur.foff.toNat := by
  rw [State.pos, h.foff, h.valid]
  omega

theorem LazilyReads.held {s u : State} {n : Nat} (hu : LazilyReads s u) (hn : n ≤ u.cur.valid.toNat)
    (htidy : (u.setCur (u.cur.drop n)).Tidy) : LazilyReads s (u.setCur (u.cur.drop n)) := by
  obtain ⟨⟨⟨-, hv, -⟩, -⟩, hlen, hlazy, hpos⟩ := hu
  have hpos' := State.pos_setCur_drop hn hv
  have hend : u.pos + n ≤ 8 * u.cur.foff.toNat := by unfold State.pos; omega
  have hreach : u.cur.foff.toNat ≤ s.cur.foff.toNat + 4 * ((u.pos - 8 * s.cur.foff.toNat + 31) / 32) :=
    hlazy.1.trans_le (Nat.min_le_right _ _)
  have hq : (u.pos + n - 8 * s.cur.foff.toNat + 31) / 32 = (u.pos - 8 * s.cur.foff.toNat + 31) / 32 := by
    clear hlazy
    omega
  refine ⟨htidy, hlen, ?_, by omega⟩
  rw [State.LazilyRefilled, hpos', hq]
  exact hlazy

/-- One refill more, when the bits held do not reach: it is needed for the new position, and one is enough. -/
theorem LazilyReads.refill {s u w : State} {n : Nat} (hu : LazilyReads s u) (hn : u.cur.valid.toNat < n)
    (he : u.cur.exh = false) (hw : Filled u 0 4 (min 4 u.unfetched) w)
    (hneed : n - u.cur.valid.toNat ≤ w.cur.valid.toNat)
    (htidy : (w.setCur (w.cur.drop (n - u.cur.valid.toNat))).Tidy) :
    LazilyReads s (w.setCur (w.cur.drop (n - u.cur.valid.toNat))) := by
  obtain ⟨-, hlen, ⟨hfoff, hexh⟩, hpos⟩ := hu
  have hwlen : w.sessLen = u.sessLen := by rw [hw.frame]
  have hwfoff := hw.foff
  have hwvalid := hw.valid
  have hwexh := hw.exh
  have hpos' := State.pos_setCur_drop hneed (by omega)
  rw [hw.pos] at hpos'
  have hle : u.pos ≤ 8 * u.cur.foff.toNat := Nat.sub_le _ _
  rw [he] at hexh hwexh
  obtain ⟨hsexh, hmore⟩ := Bool.or_eq_false_iff.1 hexh.symm
  rw [decide_eq_false_iff_not, Nat.not_lt] at hmore
  rw [Nat.min_eq_right hmore] at hfoff
  unfold State.unfetched at hwfoff hwvalid hwexh
  rw [hlen] at hwfoff hwvalid hwexh
  generalize (u.pos - 8 * s.cur.foff.toNat + 31) / 32 = q at *
  have hq : (8 * u.cur.foff.toNat + (n - u.cur.valid.toNat) - 8 * s.cur.foff.toNat + 31) / 32 = q + 1 := by
    rw [hfoff]
    omega
  refine ⟨htidy, hwlen.trans hlen, ?_, by rw [hpos']; omega⟩
  rw [State.LazilyRefilled, hpos', hq]
  constructor
  · show w.cur.foff.toNat = _
    rw [hwfoff, hfoff]
    omega
  · show w.cur.exh = _
    rw [hwexh, hsexh, hfoff]
    congr 1
    exact decide_eq_decide.2 (by omega)

theorem LazilyReads.take {s u t : State} {n v : Nat} (hu : LazilyReads s u) (h : Machine.take n u = .ok v t) :
    LazilyReads s t := by
  have htidy := take_tidy n hu.tidy
  rw [h] at htidy
  obtain ⟨⟨-, -, hin, -⟩, -⟩ := hu.tidy
  rcases take_eq_ok hin h with ⟨hn, rfl⟩ | ⟨hn, he, w, hw, hneed, rfl⟩
  · exact hu.held hn htidy
  · exact hu.refill hn he hw hneed htidy

theorem take_error_ne_none {n : Nat} {s t : State} {e : ErrCode} (hn : n ≤ 32) (h : take n s = .raise e t) :
    e ≠ .none := by
  have hends := take_ends hn s
  rw [h] at hends
  obtain ⟨-, rfl | rfl⟩ := hends <;> decide

theorem Parser.lazy {α : Type} {p : State → Res α} (hp : Parser p) {s : State} (hs : s.Tidy) :
    (p s).Ends (fun _ t => LazilyReads s t) fun e _ => e ≠ .none := by
  refine hp.ends (I := LazilyReads s) (fun _ _ he _ => he) (fun n u hn hu => ?_) (fun u o w hu => ?_) s (.refl hs)
  · cases h : Machine.take n u with
    | ok v t => exact hu.take h
    | raise e t => exact take_error_ne_none hn h
    | stuck => trivial
  · exact ⟨hu.tidy, hu.sessLen, hu.refilled, hu.pos⟩

/-- Settles O42: the body of a successful command moves by `take` alone, and completion leaves the cursor. -/
theorem refillsAreLazy : Obligations.RefillsAreLazy := by
  intro i s t hs hi h he
  obtain ⟨legal, body, hexec, hbody⟩ := exec_eq_command hi
  rw [hexec] at h
  rcases command_eq_next.1 h with ⟨-, rfl⟩ | ⟨hl, hends⟩
  · cases he
  · have hlazy := (hbody hl).lazy (s := s.checkpoint) (State.inv_iff.1 hs).1
    rcases hends with ⟨v, u, hu, rfl⟩ | ⟨u, hu, rfl⟩ | ⟨e, u, hu, rfl⟩
    · rw [hu] at hlazy
      exact ⟨hlazy.refilled, hlazy.pos⟩
    · rw [hu] at hlazy
      exact ⟨hlazy.refilled, hlazy.pos⟩
    · rw [hu] at hlazy
      exact absurd he hlazy

end Sys2Proof.Machine
end

section
/-! Window confinement (20_memory.md R50 and R52): what a running command never looks at. -/

namespace Sys2Proof.Machine

/-- The same answer, with `g` applied to its state. -/
def Res.mapState {α : Type} (g : State → State) : Res α → Res α
  | .ok v s => .ok v (g s)
  | .raise e s => .raise e (g s)
  | .stuck => .stuck

/-- What a running command never looks at beside the unfetched part of the window: the rest of the source memory, and
the host's CTRL.STRICT, SRC_BASE and SRC_LEN (70_reset_and_hazards.md R186 and R188). -/
structure Unseen where
  mem : Memory
  strict : Bool
  srcBase : BitVec 32
  srcLen : BitVec 32

def State.unseen (s : State) : Unseen :=
  { mem := s.mem, strict := s.strict, srcBase := s.srcBase, srcLen := s.srcLen }

def State.withUnseen (s : State) (u : Unseen) : State :=
  { s with mem := u.mem, strict := u.strict, srcBase := u.srcBase, srcLen := u.srcLen }

theorem State.setMem_eq_withUnseen (s : State) (m : Memory) :
    { s with mem := m } = s.withUnseen { s.unseen with mem := m } := rfl

/-- The memory `m` holds the same bytes in the unfetched part of the window. -/
def State.SameUnfetched (s : State) (m : Memory) : Prop :=
  s.WindowOk ∧ ∀ a, s.sessBase.toNat + s.cur.foff.toNat ≤ a → a < s.sessBase.toNat + s.sessLen.toNat →
    memRead m a = memRead s.mem a

theorem State.SameUnfetched.of_foff_le {s t : State} {m : Memory} (h : s.SameUnfetched m) (hr : Reads s t)
    (hlo : s.cur.foff.toNat ≤ t.cur.foff.toNat) (hhi : t.cur.foff.toNat ≤ s.sessLen.toNat) : t.SameUnfetched m := by
  obtain ⟨⟨-, hw⟩, hm⟩ := h
  have hbase : t.sessBase = s.sessBase := by rw [hr]
  have hlen : t.sessLen = s.sessLen := by rw [hr]
  have hmem : t.mem = s.mem := by rw [hr]
  rw [State.SameUnfetched, State.WindowOk, State.InRange, hbase, hlen, hmem]
  exact ⟨⟨hhi, hw⟩, fun a ha => hm a (by omega)⟩

section
variable {u : Unseen}

theorem State.SameUnfetched.srcByte {s : State} (h : s.SameUnfetched u.mem) (hmore : s.cur.foff ≠ s.sessLen) :
    (s.withUnseen u).srcByte = s.srcByte := by
  obtain ⟨hw, hm⟩ := h
  have hpos := hw.1.unfetched_pos hmore
  have hbyte : memRead u.mem s.srcAddr = memRead s.mem s.srcAddr := by
    rw [hw.srcAddr_eq hmore]
    exact hm _ (by omega) (by unfold State.unfetched at hpos; omega)
  show (if s.srcAddr ∈ s.tainted then _ else memRead u.mem s.srcAddr) = _
  rw [hbyte]
  rfl

theorem State.SameUnfetched.withUnseen_fetchByte {s : State} (h : s.SameUnfetched u.mem)
    (hmore : s.cur.foff ≠ s.sessLen) (j : Nat) :
    (s.withUnseen u).fetchByte j = (s.fetchByte j).withUnseen u := by
  rw [State.fetchByte, h.srcByte hmore]
  rfl

theorem State.SameUnfetched.fetchByte {s : State} (h : s.SameUnfetched u.mem) (hmore : s.cur.foff ≠ s.sessLen)
    (j : Nat) : (s.fetchByte j).SameUnfetched u.mem := by
  have hfoff := State.foff_fetchByte h.1.1 hmore j
  have hin := h.1.1.fetchByte hmore j
  exact h.of_foff_le rfl (by omega) hin

theorem fillFrom_withUnseen (k j : Nat) {s : State} (h : s.SameUnfetched u.mem) :
    fillFrom k j (s.withUnseen u) = (fillFrom k j s).mapState (·.withUnseen u) := by
  induction k generalizing j s with
  | zero => rfl
  | succ k ih =>
    by_cases hend : s.cur.foff = s.sessLen
    · rw [fillFrom_succ_of_end hend, fillFrom_succ_of_end (s := s.withUnseen u) hend]
      rfl
    · cases ha : s.answerAt 0 with
      | data =>
        rw [fillFrom_succ_of_data hend ha, fillFrom_succ_of_data (s := s.withUnseen u) hend ha,
          h.withUnseen_fetchByte hend, ih _ (h.fetchByte hend j)]
      | err =>
        rw [fillFrom_succ_of_err hend ha, fillFrom_succ_of_err (s := s.withUnseen u) hend ha]
        rfl
      | never =>
        rw [fillFrom_succ_of_never hend ha, fillFrom_succ_of_never (s := s.withUnseen u) hend ha]
        rfl

theorem refill_withUnseen {s : State} (h : s.SameUnfetched u.mem) :
    refill (s.withUnseen u) = (refill s).mapState (·.withUnseen u) :=
  fillFrom_withUnseen 4 0 (s := s.setCur { s.cur with acc := 0 }) h

theorem takeRest_withUnseen (hi need : Nat) (s : State) :
    takeRest hi need (s.withUnseen u) = (takeRest hi need s).mapState (·.withUnseen u) := by
  rcases Nat.lt_or_ge s.cur.valid.toNat need with hlt | hle
  · rw [takeRest_of_lt hlt, takeRest_of_lt (s := s.withUnseen u) hlt]
    rfl
  · rw [takeRest_of_le hle, takeRest_of_le (s := s.withUnseen u) hle]
    rfl

theorem take_withUnseen (n : Nat) {s : State} (h : s.SameUnfetched u.mem) :
    take n (s.withUnseen u) = (take n s).mapState (·.withUnseen u) := by
  by_cases hv : n ≤ s.cur.valid.toNat
  · rw [take_of_held hv, take_of_held (s := s.withUnseen u) hv]
    rfl
  · rw [Nat.not_le] at hv
    cases he : s.cur.exh
    · rw [take_of_refill hv he, take_of_refill (s := s.withUnseen u) hv he, refill_withUnseen h]
      cases refill s with
      | ok v t => exact takeRest_withUnseen _ _ t
      | raise e t => rfl
      | stuck => rfl
    · rw [take_of_exhausted hv he, take_of_exhausted (s := s.withUnseen u) hv he]
      rfl

theorem take_foff_le_sessLen {n v : Nat} {s t : State} (hs : s.InRange) (h : take n s = .ok v t) :
    t.cur.foff.toNat ≤ s.sessLen.toNat := by
  rcases take_eq_ok hs h with ⟨-, rfl⟩ | ⟨-, -, w, hw, -, rfl⟩
  · exact hs
  · show w.cur.foff.toNat ≤ _
    have hfoff := hw.foff
    unfold State.InRange at hs
    unfold State.unfetched at hfoff
    omega

theorem Parser.keeps_sameUnfetched {α : Type} {p : State → Res α} (hp : Parser p) {s : State}
    (h : s.SameUnfetched u.mem) : (p s).Ends (fun _ t => t.SameUnfetched u.mem) fun _ _ => True := by
  refine hp.ends (I := fun s => s.SameUnfetched u.mem) (fun _ _ _ _ => trivial) (fun n s hn hs => ?_)
    (fun _ _ _ hs => hs) s h
  have hends := take_ends hn s
  cases ht : Machine.take n s with
  | ok v t =>
    rw [ht] at hends
    obtain ⟨-, hreads, -⟩ := hends
    exact hs.of_foff_le hreads (take_foff_le hs.1.1 ht) (take_foff_le_sessLen hs.1.1 ht)
  | raise e t => trivial
  | stuck => trivial

theorem Parser.withUnseen {α : Type} {p : State → Res α} (hp : Parser p) {s : State} (h : s.SameUnfetched u.mem) :
    p (s.withUnseen u) = (p s).mapState (·.withUnseen u) := by
  induction hp generalizing s with
  | pure v => rfl
  | raise e he => rfl
  | take n hn => exact take_withUnseen n h
  | writeObu v o w => rfl
  | look hp ih => exact ih _ _ _ h
  | @bind _ _ p k hp hk ihp ihk =>
    have hkeeps := hp.keeps_sameUnfetched h
    show (p (s.withUnseen u)).bind k = ((p s).bind k).mapState _
    rw [ihp h]
    cases hr : p s with
    | ok v t =>
      rw [hr] at hkeeps
      exact ihk v hkeeps
    | raise e t => rfl
    | stuck => rfl

end

/-- The same outcome, with `g` applied to the next state. -/
def mapNext (g : State → State) : Host.Outcome State Fault Refusal → Host.Outcome State Fault Refusal
  | .next s => .next (g s)
  | .fault f => .fault f
  | .refused r => .refused r

/-- A command other than BIND runs the same when only what it does not see is different. -/
theorem exec_withUnseen {i : Instr} (hi : i ≠ .bind) {s : State} {u : Unseen} (h : s.SameUnfetched u.mem) :
    exec i (s.withUnseen u) = mapNext (·.withUnseen u) (exec i s) := by
  obtain ⟨legal, body, hexec, hbody⟩ := exec_eq_command hi
  rw [hexec]
  unfold command
  cases legal with
  | false => rfl
  | true =>
    have hrun : body (s.withUnseen u).checkpoint = (body s.checkpoint).mapState (·.withUnseen u) :=
      (hbody rfl).withUnseen (s := s.checkpoint) h
    rw [if_pos rfl, if_pos rfl, hrun]
    rcases body s.checkpoint with ⟨_ | v, t⟩ | ⟨e, t⟩ | _ <;> rfl

theorem Reads.unseen_eq {s t : State} (h : Reads s t) : t.unseen = s.unseen := by rw [h]; rfl

theorem Frames.unseen_eq {s t : State} (h : Frames s t) : t.unseen = s.unseen := by
  obtain ⟨-, -, ht⟩ := h
  rw [ht]
  rfl

/-- No command writes the source memory, CTRL, SRC_BASE or SRC_LEN. -/
theorem CommandEnds.unseen_eq {i : Instr} {s t : State} (h : CommandEnds i s t) : t.unseen = s.unseen := by
  cases h with
  | illegal => rfl
  | failed e u hr => exact hr.unseen_eq
  | read v u hr ht => exact hr.unseen_eq
  | framed v u hi hf ht => exact hf.unseen_eq
  | bound hi hw => rfl

/-- BIND does not look at the source memory. -/
theorem exec_bind_setMem (s : State) (m : Memory) :
    exec .bind { s with mem := m } = mapNext (fun t => { t with mem := m }) (exec .bind s) := by
  rw [exec_bind_eq, exec_bind_eq, show legalWindow { s with mem := m } = legalWindow s from rfl]
  cases legalWindow s <;> rfl

/-- A command runs the same on a memory that agrees on the unfetched part of the window. -/
theorem exec_setMem (i : Instr) {s : State} {m : Memory} (h : s.SameUnfetched m) :
    exec i { s with mem := m } = mapNext (fun t => { t with mem := m }) (exec i s) := by
  by_cases hi : i = .bind
  · rw [hi, exec_bind_setMem]
  · rw [s.setMem_eq_withUnseen, exec_withUnseen hi h]
    cases hr : exec i s with
    | next t => rw [mapNext, mapNext, t.setMem_eq_withUnseen, (exec_ends hr).unseen_eq]
    | fault f => rfl
    | refused r => rfl

/-- Settles O46: a command commutes with the change of memory, and writes none. -/
theorem outcomeDependsOnTheWindowOnly : Obligations.OutcomeDependsOnTheWindowOnly := by
  intro i s m hs hm
  have hrun := exec_setMem i (s := s) (m := m) ⟨hs.windowOk, hm⟩
  refine ⟨fun t ht => ⟨congrArg Unseen.mem (exec_ends ht).unseen_eq, ?_⟩, fun f hf => ?_⟩
  · rw [hrun, ht]
    rfl
  · rw [hrun, hf]
    rfl

end Sys2Proof.Machine
end

section
/-! The source's answers decide a command's outcome (20_memory.md R51, 60_exceptions.md R162). -/

namespace Sys2Proof.Machine

/-- From `s` to `t` the source answered `n` reads, all with the byte. -/
structure Answered (s t : State) (n : Nat) : Prop where
  draws : t.draws = s.draws + n
  srcScript : t.srcScript = s.srcScript.drop n
  data : ∀ k, k < n → s.answerAt k = .data

theorem Answered.of_eq {s t : State} (hd : t.draws = s.draws) (hs : t.srcScript = s.srcScript) : Answered s t 0 :=
  ⟨hd, hs, by simp⟩

theorem Answered.answerAt {s t : State} {n : Nat} (h : Answered s t n) (k : Nat) :
    t.answerAt k = s.answerAt (n + k) := by
  unfold State.answerAt
  rw [h.srcScript, h.draws, List.getElem?_drop, Nat.add_assoc]

theorem Answered.trans {s t u : State} {m n : Nat} (h : Answered s t m) (h' : Answered t u n) :
    Answered s u (m + n) := by
  refine ⟨by rw [h'.draws, h.draws, Nat.add_assoc], by rw [h'.srcScript, h.srcScript, List.drop_drop], fun k hk => ?_⟩
  by_cases hkm : k < m
  · exact h.data k hkm
  · have := h'.data (k - m) (by omega)
    rwa [h.answerAt, Nat.add_sub_cancel' (by omega)] at this

theorem Answered.firstOddAnswer {s t : State} {n j : Nat} {a : SrcAnswer} (h : Answered s t n)
    (ho : t.FirstOddAnswer j a) : s.FirstOddAnswer (n + j) a := by
  obtain ⟨ha, hodd, hlt⟩ := ho
  refine ⟨by rw [← h.answerAt, ha], hodd, fun k hk => ?_⟩
  by_cases hkn : k < n
  · exact h.data k hkn
  · have := hlt (k - n) (by omega)
    rwa [h.answerAt, Nat.add_sub_cancel' (by omega)] at this

/-- Whatever it ends in, `r` has made the source reads up to the draw `d`. -/
def Res.ReadsPast {α : Type} (d : Nat) (r : Res α) : Prop := r.Ends (fun _ t => d ≤ t.draws) fun _ t => d ≤ t.draws

/-- A run `r'` from `s` beside the run `r` from the same state with every read answered: the two end the same way after
reads that the source answered, or `r'` ends at the first odd answer, which `r` has read past. -/
inductive Follows (s : State) {α : Type} : Res α → Res α → Prop where
  | ok (n : Nat) (v : α) (t : State) (h : Answered s t n) (ht : t.InRange) : Follows s (.ok v t.allAnswered) (.ok v t)
  | raise (n : Nat) (e : ErrCode) (t : State) (h : Answered s t n) :
      Follows s (.raise e t.allAnswered) (.raise e t)
  | err (j : Nat) (t : State) (r : Res α) (ho : s.FirstOddAnswer j .err) (hd : t.draws = s.draws + (j + 1))
      (hs : t.srcScript = s.srcScript.drop (j + 1)) (hr : r.ReadsPast (s.draws + (j + 1))) :
      Follows s r (.raise .sourceError t)
  | never (j : Nat) (r : Res α) (ho : s.FirstOddAnswer j .never) (hr : r.ReadsPast (s.draws + (j + 1))) :
      Follows s r .stuck

/-- Answered reads before. -/
theorem Follows.after {s t : State} {n : Nat} {α : Type} {r r' : Res α} (h : Answered s t n) (hf : Follows t r r') :
    Follows s r r' := by
  have hdraws (j : Nat) : t.draws + (j + 1) = s.draws + (n + j + 1) := by rw [h.draws]; omega
  cases hf with
  | ok m v u hu hin => exact .ok _ v u (h.trans hu) hin
  | raise m e u hu => exact .raise _ e u (h.trans hu)
  | err j u r ho hd hs hr =>
    exact .err (n + j) u r (h.firstOddAnswer ho) (hd.trans (hdraws j)) (by rw [hs, h.srcScript, List.drop_drop]; rfl)
      (hdraws j ▸ hr)
  | never j r ho hr => exact .never (n + j) r (h.firstOddAnswer ho) (hdraws j ▸ hr)

theorem Follows.bind {s : State} {α β : Type} {r r' : Res α} {k : α → State → Res β} (h : Follows s r r')
    (hk : ∀ v t, t.InRange → Follows t (k v t.allAnswered) (k v t))
    (hdraws : ∀ v t, (k v t).ReadsPast t.draws) : Follows s (r.bind k) (r'.bind k) := by
  have hpast {d : Nat} (hr : r.ReadsPast d) : (r.bind k).ReadsPast d :=
    Res.Ends.bind hr fun v t ht => (hdraws v t).mono (fun _ _ h => ht.trans h) fun _ _ h => ht.trans h
  cases h with
  | ok n v t h ht => exact (hk v t ht).after h
  | raise n e t h => exact .raise n e t h
  | err j t r ho hd hs hr => exact .err j t _ ho hd hs (hpast hr)
  | never j r ho hr => exact .never j _ ho (hpast hr)

/-! ### Reads only go on -/

theorem Res.ReadsPast.mono {α : Type} {d d' : Nat} {r : Res α} (h : r.ReadsPast d) (hd : d' ≤ d) : r.ReadsPast d' :=
  Res.Ends.mono h (fun _ _ ht => hd.trans ht) fun _ _ ht => hd.trans ht

theorem fillFrom_readsPast (k j : Nat) (s : State) : (fillFrom k j s).ReadsPast s.draws := by
  induction k generalizing j s with
  | zero => exact Nat.le_refl _
  | succ k ih =>
    by_cases hend : s.cur.foff = s.sessLen
    · rw [fillFrom_succ_of_end hend]
      exact Nat.le_refl _
    · cases ha : s.answerAt 0 with
      | data =>
        rw [fillFrom_succ_of_data hend ha]
        exact (ih _ _).mono (Nat.le_succ _)
      | err =>
        rw [fillFrom_succ_of_err hend ha]
        exact Nat.le_succ _
      | never =>
        rw [fillFrom_succ_of_never hend ha]
        trivial

theorem takeRest_readsPast (hi need : Nat) (s : State) : (takeRest hi need s).ReadsPast s.draws := by
  unfold takeRest
  split
  · exact Nat.le_refl _
  · exact Nat.le_refl _

theorem take_readsPast (n : Nat) (s : State) : (take n s).ReadsPast s.draws := by
  by_cases hv : n ≤ s.cur.valid.toNat
  · rw [take_of_held hv]
    exact Nat.le_refl _
  · rw [Nat.not_le] at hv
    cases he : s.cur.exh
    · rw [take_of_refill hv he]
      exact Res.Ends.bind (fillFrom_readsPast 4 0 (s.setCur { s.cur with acc := 0 })) fun _ t ht =>
        (takeRest_readsPast _ _ t).mono ht
    · rw [take_of_exhausted hv he]
      exact Nat.le_refl _

theorem Parser.readsPast {α : Type} {p : State → Res α} (hp : Parser p) (s : State) : (p s).ReadsPast s.draws :=
  hp.ends (I := fun t => s.draws ≤ t.draws) (Q := fun _ t => s.draws ≤ t.draws) (fun _ _ _ h => h)
    (fun n t _ ht => (take_readsPast n t).mono ht) (fun _ _ _ h => h) s (Nat.le_refl _)

/-! ### A run beside the run with every read answered -/

theorem State.allAnswered_answerAt {s : State} (hs : s.InRange) (hmore : s.cur.foff ≠ s.sessLen) :
    s.allAnswered.answerAt 0 = .data := by
  have hpos := hs.unfetched_pos hmore
  simp [State.answerAt, State.allAnswered, hpos]

theorem State.allAnswered_fetchByte {s : State} (hs : s.InRange) (hmore : s.cur.foff ≠ s.sessLen) (j : Nat) :
    s.allAnswered.fetchByte j = (s.fetchByte j).allAnswered := by
  rw [State.allAnswered, State.allAnswered, State.unfetched_fetchByte hs hmore, ← List.tail_replicate]
  rfl

theorem Answered.fetchByte {s : State} (ha : s.answerAt 0 = .data) (j : Nat) : Answered s (s.fetchByte j) 1 := by
  refine ⟨rfl, by simp, fun k hk => ?_⟩
  rwa [Nat.lt_one_iff.1 hk]

theorem fillFrom_follows (k j : Nat) {s : State} (hs : s.InRange) :
    Follows s (fillFrom k j s.allAnswered) (fillFrom k j s) := by
  induction k generalizing j s with
  | zero => exact .ok 0 () (s.endRefill j) (.of_eq rfl rfl) hs
  | succ k ih =>
    by_cases hend : s.cur.foff = s.sessLen
    · rw [fillFrom_succ_of_end hend, fillFrom_succ_of_end (s := s.allAnswered) hend]
      exact .ok 0 () (s.markExhausted.endRefill j) (.of_eq rfl rfl) hs
    · rw [fillFrom_succ_of_data (s := s.allAnswered) hend (s.allAnswered_answerAt hs hend),
        s.allAnswered_fetchByte hs hend]
      have hpast := fillFrom_readsPast k (j + 1) (s.fetchByte j).allAnswered
      cases ha : s.answerAt 0 with
      | data =>
        rw [fillFrom_succ_of_data hend ha]
        exact (ih (j + 1) (hs.fetchByte hend j)).after (.fetchByte ha j)
      | err =>
        rw [fillFrom_succ_of_err hend ha]
        exact .err 0 _ _ ⟨ha, by decide, by simp⟩ rfl (by simp) hpast
      | never =>
        rw [fillFrom_succ_of_never hend ha]
        exact .never 0 _ ⟨ha, by decide, by simp⟩ hpast

theorem refill_follows {s : State} (hs : s.InRange) : Follows s (refill s.allAnswered) (refill s) :=
  .after (t := s.setCur { s.cur with acc := 0 }) (.of_eq rfl rfl) (fillFrom_follows 4 0 hs)

theorem takeRest_follows (hi need : Nat) {s : State} (hs : s.InRange) :
    Follows s (takeRest hi need s.allAnswered) (takeRest hi need s) := by
  rcases Nat.lt_or_ge s.cur.valid.toNat need with hlt | hle
  · rw [takeRest_of_lt hlt, takeRest_of_lt (s := s.allAnswered) hlt]
    exact .raise 0 _ s (.of_eq rfl rfl)
  · rw [takeRest_of_le hle, takeRest_of_le (s := s.allAnswered) hle]
    exact .ok 0 _ (s.setCur _) (.of_eq rfl rfl) hs

theorem take_follows (n : Nat) {s : State} (hs : s.InRange) : Follows s (take n s.allAnswered) (take n s) := by
  by_cases hv : n ≤ s.cur.valid.toNat
  · rw [take_of_held hv, take_of_held (s := s.allAnswered) hv]
    exact .ok 0 _ (s.setCur (s.cur.drop n)) (.of_eq rfl rfl) hs
  · rw [Nat.not_le] at hv
    cases he : s.cur.exh
    · rw [take_of_refill hv he, take_of_refill (s := s.allAnswered) hv he]
      exact (refill_follows hs).bind (fun _ t ht => takeRest_follows _ _ ht) fun _ t => takeRest_readsPast _ _ t
    · rw [take_of_exhausted hv he, take_of_exhausted (s := s.allAnswered) hv he]
      exact .raise 0 _ _ (.of_eq rfl rfl)

theorem Parser.follows {α : Type} {p : State → Res α} (hp : Parser p) {s : State} (hs : s.InRange) :
    Follows s (p s.allAnswered) (p s) := by
  induction hp generalizing s with
  | pure v => exact .ok 0 _ _ (.of_eq rfl rfl) hs
  | raise e he => exact .raise 0 _ _ (.of_eq rfl rfl)
  | take n hn => exact take_follows n hs
  | writeObu v o w => exact .ok 0 v (s.writeObu o w) (.of_eq rfl rfl) hs
  | look h ih => exact ih _ _ _ hs
  | bind hp hk ihp ihk => exact (ihp hs).bind (fun v _ ht => ihk v ht) fun v t => (hk v).readsPast t

/-! ### The outcome -/

/-- A command that failed with SourceError changed only its report, the checkpoint and the used-up answers. -/
theorem CommandEnds.eq_failedAt {i : Instr} {s t : State} {n : Nat} (h : CommandEnds i s t) (he : t.err = .sourceError)
    (hd : t.draws = s.draws + n) (hs : t.srcScript = s.srcScript.drop n) : t = s.failedAt .sourceError n := by
  cases h with
  | illegal => cases he
  | failed e u hr =>
    have ht : u.rollback.failWith e =
        { s.failedAt e n with srcScript := u.srcScript, draws := u.draws } := by rw [hr]; rfl
    rw [ht, show e = .sourceError from he, show u.srcScript = _ from hs, show u.draws = _ from hd]
    rfl
  | read v u hr ht => cases he
  | framed v u hi hf ht => cases he
  | bound hi hw => cases he

/-- BIND reads no source byte. -/
theorem exec_bind_allAnswered {s t : State} (h : exec .bind s.allAnswered = .next t) :
    exec .bind s = .next { t with srcScript := s.srcScript } ∧ t.draws = s.draws := by
  rw [exec_bind_eq] at h
  cases h
  rw [exec_bind_eq, show legalWindow s.allAnswered = legalWindow s from rfl]
  cases legalWindow s <;> exact ⟨rfl, rfl⟩

/-- How the actual outcome stands to the outcome `t` with every read answered. -/
inductive OutcomeFollows (i : Instr) (s t : State) : Prop where
  | answered (n : Nat) (hn : t.draws = s.draws + n) (ha : ∀ k, k < n → s.answerAt k = .data)
      (h : exec i s = .next { t with srcScript := s.srcScript.drop n })
  | err (j : Nat) (ho : s.FirstOddAnswer j .err) (hj : s.draws + (j + 1) ≤ t.draws)
      (h : exec i s = .next (s.failedAt .sourceError (j + 1)))
  | never (j : Nat) (ho : s.FirstOddAnswer j .never) (hj : s.draws + (j + 1) ≤ t.draws)
      (h : exec i s = .fault .sourceNeverAnswers)

/-- Completion keeps the draws. -/
theorem finish_draws_le {r : Res (Option Word)} {d : Nat} {t : State} (h : r.ReadsPast d) (ht : finish r = .next t) :
    d ≤ t.draws := by
  rcases r with ⟨_ | v, u⟩ | ⟨e, u⟩ | _ <;> cases ht <;> exact h

theorem finish_ok_allAnswered {v : Option Word} {u t : State} (h : finish (.ok v u.allAnswered) = .next t) :
    t.draws = u.draws ∧ finish (.ok v u) = .next { t with srcScript := u.srcScript } := by
  cases v <;> cases h <;> exact ⟨rfl, rfl⟩

theorem finish_raise_allAnswered {e : ErrCode} {u t : State} (h : finish (.raise e u.allAnswered) = .next t) :
    t.draws = u.draws ∧ finish (.raise e u) = .next { t with srcScript := u.srcScript } := by
  cases h
  exact ⟨rfl, rfl⟩

theorem Follows.outcome {i : Instr} {s t : State} {r r' : Res (Option Word)} (hf : Follows s.checkpoint r r')
    (href : finish r = .next t) (hrun : exec i s = finish r') : OutcomeFollows i s t := by
  cases hf with
  | ok n v u hu hin =>
    obtain ⟨hd, hrun'⟩ := finish_ok_allAnswered href
    exact .answered n (hd.trans hu.draws) hu.data (by rw [hrun, hrun', hu.srcScript]; rfl)
  | raise n e u hu =>
    obtain ⟨hd, hrun'⟩ := finish_raise_allAnswered href
    exact .answered n (hd.trans hu.draws) hu.data (by rw [hrun, hrun', hu.srcScript]; rfl)
  | err j u r ho hd hs hr =>
    exact .err j ho (finish_draws_le hr href) (hrun.trans (congrArg _ ((exec_ends hrun).eq_failedAt rfl hd hs)))
  | never j r ho hr => exact .never j ho (finish_draws_le hr href) hrun

theorem exec_follows {i : Instr} {s t : State} (hs : s.InRange) (h : exec i s.allAnswered = .next t) :
    OutcomeFollows i s t := by
  by_cases hi : i = .bind
  · subst hi
    obtain ⟨hb, hd⟩ := exec_bind_allAnswered h
    exact .answered 0 hd (by simp) hb
  · obtain ⟨legal, body, hexec, hbody⟩ := exec_eq_command hi
    rw [hexec] at h
    cases legal with
    | false =>
      cases h
      exact .answered 0 rfl (by simp) (by rw [hexec]; rfl)
    | true => exact ((hbody rfl).follows (s := s.checkpoint) hs).outcome h (by rw [hexec]; rfl)

/-- Settles O34, by the three ways the outcome stands to the one with every read answered. -/
theorem sourceAnswersDecideTheOutcome : Obligations.SourceAnswersDecideTheOutcome := by
  intro i s t hs h
  cases exec_follows hs.windowOk.1 h with
  | answered n hn ha hrun =>
    have hreads : s.readsTo t = n := by rw [State.readsTo, hn, Nat.add_sub_cancel_left]
    rw [hreads]
    exact ⟨fun _ => hrun, fun k hk ho => absurd (ha k hk) ho.ne_data, fun k hk ho => absurd (ha k hk) ho.ne_data⟩
  | err j ho hj hrun =>
    have hreads : j < s.readsTo t := by unfold State.readsTo; omega
    refine ⟨fun hall => absurd (hall j hreads) ho.ne_data, fun k _ hk => ?_, fun k _ hk => ?_⟩
    · rw [(hk.unique ho).1, hrun]
    · cases (hk.unique ho).2
  | never j ho hj hrun =>
    have hreads : j < s.readsTo t := by unfold State.readsTo; omega
    refine ⟨fun hall => absurd (hall j hreads) ho.ne_data, fun k _ hk => ?_, fun k _ hk => hrun⟩
    cases (hk.unique ho).2

end Sys2Proof.Machine
end

section
/-! The command word (30_encoding.md R70 to R76): the fields as numbers, decoder and encoder as inverses, the assembler's
lines, and which words are legal. -/

namespace Sys2Proof.Machine

/-! ### The fields as numbers -/

theorem opField_toNat (w : Word) : (opField w).toNat = w.toNat % 2 ^ 8 := by
  simp [opField]

theorem rsvField_toNat (w : Word) : (rsvField w).toNat = w.toNat / 2 ^ 8 % 2 ^ 24 := by
  simp [rsvField, Nat.shiftRight_eq_div_pow]

theorem argField_toNat (w : Word) : (argField w).toNat = w.toNat / 2 ^ 32 := by
  have hw := w.isLt
  rw [argField, BitVec.extractLsb'_toNat, Nat.shiftRight_eq_div_pow, Nat.mod_eq_of_lt (by omega)]

/-- RSV adds nothing to a command's word (30_encoding.md R76). -/
theorem encode_toNat (i : Instr) : (encode i).toNat = (argOf i).toNat * 2 ^ 32 + (opcodeOf i).toNat := by
  rw [encode, Laws.EncodeShape.toNat_append, BitVec.ofNat_eq_ofNat, BitVec.toNat_zero, Nat.zero_mul, Nat.add_zero]

/-! ### Decoder and encoder -/

theorem decodeNoArg_eq_ok {w : Word} {i j : Instr} : decodeNoArg w i = .ok j ↔ argField w = 0 ∧ i = j := by
  unfold decodeNoArg
  split <;> simp_all

/-- A word of RSV = 0 is read as the command whose opcode and argument it holds. -/
theorem decodeOp_eq_ok {w : Word} {i : Instr} :
    decodeOp w = .ok i ↔ opField w = opcodeOf i ∧ argField w = argOf i := by
  constructor
  · intro h
    have hop {n : Nat} (hn : (opField w).toNat = n) : opField w = BitVec.ofNat 8 n := by
      rw [← hn, BitVec.ofNat_toNat, BitVec.setWidth_eq]
    unfold decodeOp at h
    split at h
    case h_10 => cases h
    case h_1 hn | h_4 hn | h_6 hn | h_7 hn => cases h; exact ⟨hop hn, rfl⟩
    all_goals
      next hn =>
      obtain ⟨harg, rfl⟩ := decodeNoArg_eq_ok.1 h
      exact ⟨hop hn, harg⟩
  · rintro ⟨hop, harg⟩
    unfold decodeOp
    rw [hop]
    cases i with
    | f n | le n | su n | ns n => rw [harg]; rfl
    | f1 | uvlc | leb128 | obuHdr | bind => exact decodeNoArg_eq_ok.2 ⟨harg, rfl⟩


/-- A word decodes to the command whose fields it holds, and to no other (30_encoding.md R70 to R73). -/
theorem decode_eq_ok {w : Word} {i : Instr} :
    decode w = .ok i ↔ rsvField w = 0 ∧ opField w = opcodeOf i ∧ argField w = argOf i := by
  unfold decode
  split
  next hrsv => rw [decodeOp_eq_ok, and_iff_right hrsv]
  next hrsv => exact iff_of_false (by simp) fun h => hrsv h.1

/-- The same, with the fields cut out of the word as a number. -/
theorem decode_eq_ok_iff_toNat {w : Word} {i : Instr} :
    decode w = .ok i ↔ w.toNat / 2 ^ 8 % 2 ^ 24 = 0 ∧ w.toNat % 2 ^ 8 = (opcodeOf i).toNat ∧
      w.toNat / 2 ^ 32 = (argOf i).toNat := by
  rw [decode_eq_ok, ← BitVec.toNat_inj, ← BitVec.toNat_inj, ← BitVec.toNat_inj, rsvField_toNat, opField_toNat,
    argField_toNat, BitVec.ofNat_eq_ofNat, BitVec.toNat_zero]

/-- Settles O2: both sides say that the word's fields are the command's opcode, 0 and its argument. -/
theorem decodeInvertsEncode : Obligations.DecodeInvertsEncode := by
  intro w i
  rw [decode_eq_ok_iff_toNat, ← BitVec.toNat_inj, encode_toNat]
  have hop := (opcodeOf i).isLt
  have harg := (argOf i).isLt
  omega

/-- Settles O1: each word is its command's encoding. -/
theorem specWordsDecode : Obligations.SpecWordsDecode := by
  refine ⟨?_, ?_, ?_, ?_, ?_, ?_, ?_, ?_, ?_⟩ <;> exact (decodeInvertsEncode _ _).2 (by decide)

/-- Settles O3: the encoder's fields as a number, and the assembler run on each line. -/
theorem assembledWordIsArgAndOp : Obligations.AssembledWordIsArgAndOp :=
  ⟨encode_toNat, by decide⟩

/-! ### Legal words (30_encoding.md R73) -/

/-- What a command checks before it starts: the range of its ARG, and for BIND the window. -/
def operandsLegal (i : Instr) (s : State) : Bool :=
  match i with
  | .bind => legalWindow s
  | i => i.wellFormed

/-- A part of a body raises no IllegalCommand. -/
def Res.NeverIllegal {α : Type} (r : Res α) : Prop := r.Ends (fun _ _ => True) fun e _ => e ≠ .illegalCommand

theorem ReadError.ne_illegalCommand {e : ErrCode} (h : ReadError e) : e ≠ .illegalCommand := by
  rcases h with rfl | rfl <;> decide

theorem ReadBody.neverIllegal {s : State} {r : Res (Option Word)} (h : ReadBody s r) : r.NeverIllegal := by
  refine h.mono (fun _ _ _ => trivial) ?_
  rintro e t ⟨-, h | ⟨rfl, -⟩⟩
  · exact h.ne_illegalCommand
  · decide

theorem bodyObuHdr_neverIllegal (s : State) : (bodyObuHdr s).NeverIllegal := by
  refine (bodyObuHdr_ends s).mono (fun _ _ _ => trivial) ?_
  rintro e t ⟨-, h | ⟨rfl, -⟩ | ⟨rfl, -⟩⟩
  · exact h.ne_illegalCommand
  · decide
  · decide

/-- Every command is the check of its operands and then a body that raises no IllegalCommand (40_command_cycle.md R91). -/
theorem exec_eq_command_operandsLegal (i : Instr) (s : State) :
    ∃ body, exec i s = command (operandsLegal i s) body s ∧
      (operandsLegal i s = true → (body s.checkpoint).NeverIllegal) := by
  cases i with
  | f n => exact ⟨_, rfl, fun h => (bodyF_ends h _).neverIllegal⟩
  | f1 => exact ⟨_, rfl, fun _ => (bodyF1_ends _).neverIllegal⟩
  | uvlc => exact ⟨_, rfl, fun _ => (bodyUvlc_ends _).neverIllegal⟩
  | le n => exact ⟨_, rfl, fun _ => (bodyLe_ends n _).neverIllegal⟩
  | leb128 => exact ⟨_, rfl, fun _ => (bodyLeb128_ends _).neverIllegal⟩
  | su n => exact ⟨_, rfl, fun h => (bodySu_ends h _).neverIllegal⟩
  | ns n => exact ⟨_, rfl, fun _ => (bodyNs_ends n _).neverIllegal⟩
  | obuHdr => exact ⟨_, rfl, fun _ => bodyObuHdr_neverIllegal _⟩
  | bind => exact ⟨_, rfl, fun _ => trivial⟩

theorem exec_of_operandsLegal_eq_false {i : Instr} {s : State} (h : operandsLegal i s = false) :
    exec i s = illegal s := by
  obtain ⟨body, hexec, -⟩ := exec_eq_command_operandsLegal i s
  rw [hexec, h]
  rfl

theorem exec_err_ne_illegalCommand {i : Instr} {s t : State} (h : operandsLegal i s = true)
    (ht : exec i s = .next t) : t.err ≠ .illegalCommand := by
  obtain ⟨body, hexec, hbody⟩ := exec_eq_command_operandsLegal i s
  rw [hexec] at ht
  rcases command_eq_next.1 ht with ⟨hl, -⟩ | ⟨-, ⟨v, u, -, rfl⟩ | ⟨u, -, rfl⟩ | ⟨e, u, hu, rfl⟩⟩
  · exact Bool.noConfusion (h.symm.trans hl)
  · simp
  · simp
  · have hne := hbody h
    rw [hu] at hne
    exact hne

theorem runLatched_of_decode_ok {s : State} {i : Instr} (h : decode (fetch s) = .ok i) : runLatched s = exec i s := by
  rw [runLatched, h]

theorem runLatched_of_decode_error {s : State} {e : DecodeError} (h : decode (fetch s) = .error e) :
    runLatched s = illegal s := by
  rw [runLatched, h]

/-- The legal words of 30_encoding.md R73, by the fields of the word as a number. -/
def LegalWord (w : Nat) (s : State) : Prop :=
  w / 2 ^ 8 % 2 ^ 24 = 0 ∧
    (((w % 2 ^ 8 = 0x01 ∨ w % 2 ^ 8 = 0x06) ∧ 1 ≤ w / 2 ^ 32 ∧ w / 2 ^ 32 ≤ 32) ∨
      (w % 2 ^ 8 = 0x04 ∧ 1 ≤ w / 2 ^ 32 ∧ w / 2 ^ 32 ≤ 8) ∨ (w % 2 ^ 8 = 0x07 ∧ 1 ≤ w / 2 ^ 32) ∨
      ((w % 2 ^ 8 = 0x02 ∨ w % 2 ^ 8 = 0x03 ∨ w % 2 ^ 8 = 0x05 ∨ w % 2 ^ 8 = 0x08) ∧ w / 2 ^ 32 = 0) ∨
      (w % 2 ^ 8 = 0x09 ∧ w / 2 ^ 32 = 0 ∧ s.srcBase.toNat + s.srcLen.toNat ≤ 2 ^ 32))

/-- The legal words are those that decode to a command with legal operands. -/
theorem legalWord_iff {w : Word} {s : State} :
    LegalWord w.toNat s ↔ ∃ i, decode w = .ok i ∧ operandsLegal i s = true := by
  constructor
  · rintro ⟨hrsv, hrow⟩
    have hdec {i : Instr} (hop : w.toNat % 2 ^ 8 = (opcodeOf i).toNat) (harg : w.toNat / 2 ^ 32 = (argOf i).toNat) :
        decode w = .ok i := decode_eq_ok_iff_toNat.2 ⟨hrsv, hop, harg⟩
    have harg := (argField_toNat w).symm
    rcases hrow with ⟨hop | hop, hlow, hhigh⟩ | ⟨hop, hlow, hhigh⟩ | ⟨hop, hlow⟩ | ⟨hop | hop | hop | hop, h0⟩ |
      ⟨hop, h0, hwin⟩
    · exact ⟨.f (argField w), hdec hop harg, (legalBits_iff _).2 (harg ▸ ⟨hlow, hhigh⟩)⟩
    · exact ⟨.su (argField w), hdec hop harg, (legalBits_iff _).2 (harg ▸ ⟨hlow, hhigh⟩)⟩
    · exact ⟨.le (argField w), hdec hop harg, (legalBytes_iff _).2 (harg ▸ ⟨hlow, hhigh⟩)⟩
    · exact ⟨.ns (argField w), hdec hop harg, (legalAlphabet_iff _).2 (harg ▸ hlow)⟩
    · exact ⟨.f1, hdec hop h0, rfl⟩
    · exact ⟨.uvlc, hdec hop h0, rfl⟩
    · exact ⟨.leb128, hdec hop h0, rfl⟩
    · exact ⟨.obuHdr, hdec hop h0, rfl⟩
    · exact ⟨.bind, hdec hop h0, (legalWindow_iff s).2 hwin⟩
  · rintro ⟨i, hdec, hlegal⟩
    obtain ⟨hrsv, hop, harg⟩ := decode_eq_ok_iff_toNat.1 hdec
    refine ⟨hrsv, ?_⟩
    rw [hop, harg]
    cases i with
    | f n => exact .inl ⟨.inl rfl, (legalBits_iff n).1 hlegal⟩
    | su n => exact .inl ⟨.inr rfl, (legalBits_iff n).1 hlegal⟩
    | le n => exact .inr (.inl ⟨rfl, (legalBytes_iff n).1 hlegal⟩)
    | ns n => exact .inr (.inr (.inl ⟨rfl, (legalAlphabet_iff n).1 hlegal⟩))
    | f1 | uvlc | leb128 | obuHdr => exact .inr (.inr (.inr (.inl ⟨by decide, rfl⟩)))
    | bind => exact .inr (.inr (.inr (.inr ⟨rfl, rfl, (legalWindow_iff s).1 hlegal⟩)))

/-- Settles O4: a word is legal exactly when it decodes to a command with legal operands; a command with illegal operands
fails like a word that does not decode, and the body of one with legal operands raises no IllegalCommand. -/
theorem illegalWordsFailAndChangeNothing : Obligations.IllegalWordsFailAndChangeNothing := by
  intro s
  show (¬ LegalWord (fetch s).toNat s → runLatched s = illegal s) ∧
    (LegalWord (fetch s).toNat s → ∀ t, runLatched s = .next t → t.err ≠ .illegalCommand)
  rw [legalWord_iff]
  constructor
  · intro hillegal
    cases hdec : decode (fetch s) with
    | error e => exact runLatched_of_decode_error hdec
    | ok i =>
      have hops : operandsLegal i s = false := Bool.eq_false_iff.2 fun h => hillegal ⟨i, hdec, h⟩
      rw [runLatched_of_decode_ok hdec, exec_of_operandsLegal_eq_false hops]
  · rintro ⟨i, hdec, hops⟩ t ht
    rw [runLatched_of_decode_ok hdec] at ht
    exact exec_err_ne_illegalCommand hops ht

end Sys2Proof.Machine
end

section
/-! The command cycle (40_command_cycle.md R90 to R96): the step, the issue of a command, the host's accesses while
BUSY = 1, and what a command leaves when it ends. -/

namespace Sys2Proof.Machine

/-! ### The step (R91 and R95) -/

theorem step_of_blockTurn {s : State} (h : blockTurn s = true) : step s = runLatched s := if_pos h

theorem step_of_hostTurn {s : State} (h : blockTurn s = false) : step s = hostTurn s := by
  rw [step, h]
  rfl

/-- Settles O5: by whose turn it is, and what the latched word decodes to. -/
theorem stepExecutesTheLatchedCommand : Obligations.StepExecutesTheLatchedCommand := by
  refine ⟨fun s i hb hi => ?_, fun s e hb he => ?_, fun s => blockTurn_eq_true.symm, fun s hb hi => ?_,
    fun s op rest hb hi => ?_, fun s w => ⟨rfl, ?_⟩⟩
  · rw [step_of_blockTurn hb, runLatched_of_decode_ok hi]
  · rw [step_of_blockTurn hb, runLatched_of_decode_error he]
    rfl
  · rw [step_of_hostTurn hb, hostTurn, hi]
  · rw [step_of_hostTurn hb, hostTurn, hi]
    rfl
  · rw [fetch, State.withFetchWord_cmdWord, Nat.mod_eq_of_lt w.isLt, BitVec.ofNat_toNat, BitVec.setWidth_eq]

/-! ### The host's accesses while BUSY = 1 (R95 and R96) -/

theorem step_of_busy_regWrite {s : State} {off : Nat} {v : Word} {r : HostReg} {rest : List HostOp}
    (hb : s.busy = true) (hi : s.inbox = .regWrite off v :: rest) (hr : hostRegOf off = some r) :
    step s = .next { s with inbox := rest, overrun := true } := by
  rw [step_of_regWrite hi hr]
  simp [hostRegWrite, hb, State.setOverrun, State.setInbox]

/-- A register read gives the host a value and may use up a draw. -/
theorem hostRegRead_frame (r : HostReg) (s : State) :
    hostRegRead r s = { s with rdata := (hostRegRead r s).rdata, draws := (hostRegRead r s).draws } := by
  unfold hostRegRead
  split <;> rfl

/-- Only POS, ACC and CURSOR do not read their value while BUSY = 1. -/
theorem hostRegRead_rdata {r : HostReg} (h : r.freeWhileBusy = false) (s : State) :
    (hostRegRead r s).rdata = hostRegValue r s := by
  simp [hostRegRead, h]

theorem zero_append_eq_setWidth (x : BitVec 32) : (show Word from (0 : BitVec 32) ++ x) = x.setWidth 64 := by
  apply BitVec.eq_of_toNat_eq
  rw [BitVec.toNat_setWidth_of_le (by decide)]
  exact zero_append_toNat 32 x

/-- Settles O7: a write goes to OVERRUN whatever the register; a read is taken register by register. -/
theorem busyWritesSetOverrunOnly : Obligations.BusyWritesSetOverrunOnly := by
  intro s off rest hb halign hoff
  obtain ⟨r, hr⟩ := Option.isSome_iff_exists.1 ((hostRegOf_isSome off).2 ⟨halign, hoff⟩)
  refine ⟨fun v hi => step_of_busy_regWrite hb hi hr, fun hi => ?_⟩
  have hval {q : HostReg} (hq : hostRegOf off = some q) (hfree : q.freeWhileBusy = false) :
      (hostRegRead r (s.setInbox rest)).rdata = hostRegValue q s := by
    obtain rfl : r = q := Option.some.inj (hr.symm.trans hq)
    rw [hostRegRead_rdata hfree, hostRegValue_setInbox]
  refine ⟨_, step_of_regRead hi hr, hostRegRead_frame r (s.setInbox rest), ?ctrl, ?status, ?cmd, ?result, ?srcBase,
    ?srcLen, ?obuInfo, ?obuSize, ?payloadOff, ?payloadLen, ?reserved⟩
  case ctrl =>
    rintro rfl
    exact (hval (q := .ctrl) rfl rfl).trans (eq_ofNat_of_toNat_eq (ctrlWord_toNat s))
  case status =>
    rintro rfl
    refine ⟨s.cur.exh, (hval (q := .status) rfl rfl).trans (eq_ofNat_of_toNat_eq ?_)⟩
    have h := statusWord_toNat s
    rw [hb] at h
    cases he : s.err <;> rw [he] at h <;> exact h
  case cmd => rintro rfl; exact hval (q := .cmd) rfl rfl
  case result => rintro rfl; exact hval (q := .result) rfl rfl
  case srcBase => rintro rfl; exact (hval (q := .srcBase) rfl rfl).trans (zero_append_eq_setWidth _)
  case srcLen => rintro rfl; exact (hval (q := .srcLen) rfl rfl).trans (zero_append_eq_setWidth _)
  case obuInfo => rintro rfl; exact hval (q := .obuInfo) rfl rfl
  case obuSize => rintro rfl; exact hval (q := .obuSize) rfl rfl
  case payloadOff => rintro rfl; exact (hval (q := .payloadOff) rfl rfl).trans (zero_append_eq_setWidth _)
  case payloadLen => rintro rfl; exact hval (q := .payloadLen) rfl rfl
  case reserved => exact fun hlo => hval (hostRegOf_reserved (by omega)) rfl

/-! ### What a command keeps (R90, R93 and R94) -/

theorem Reads.sameSetup {s u : State} (h : Reads s u) : s.SameSetup u := by
  rw [h]
  exact ⟨rfl, rfl, rfl, rfl, rfl, rfl, rfl, rfl, rfl, rfl, rfl, fun _ => rfl⟩

theorem Reads.sameObu {s u : State} (h : Reads s u) : s.SameObu u := by
  rw [h]
  exact ⟨rfl, rfl⟩

theorem Reads.ckpt_eq {s u : State} (h : Reads s u) : u.ckpt = s.ckpt := by rw [h]

/-- The latched word and the sampled policy stay as they were at issue. -/
theorem CommandEnds.latch_eq {i : Instr} {s t : State} (h : CommandEnds i s t) :
    t.strictS = s.strictS ∧ t.cmdWord = s.cmdWord := by
  cases h with
  | illegal => exact ⟨rfl, rfl⟩
  | failed e u hr => rw [hr]; exact ⟨rfl, rfl⟩
  | read v u hr ht => rw [hr]; exact ⟨rfl, rfl⟩
  | framed v u hi hf ht =>
    obtain ⟨-, -, hu⟩ := hf
    rw [hu]
    exact ⟨rfl, rfl⟩
  | bound hi hw => exact ⟨rfl, rfl⟩

theorem CommandEnds.busy_eq {i : Instr} {s t : State} (h : CommandEnds i s t) : t.busy = false := by
  cases h <;> rfl

/-- Settles O6: the write of CMD with BUSY = 0 and with BUSY = 1, and what every command keeps. -/
theorem cmdWriteIssuesTheCommand : Obligations.CmdWriteIssuesTheCommand := by
  refine ⟨fun s w rest hb hi => step_of_idle_regWrite .cmd hb hi rfl, fun s t w rest hb hi ht => ?_,
    fun i s t h => (exec_ends h).latch_eq⟩
  rw [step_of_busy_regWrite (r := .cmd) hb hi rfl] at ht
  cases ht
  exact ⟨rfl, rfl, hb⟩

/-- Settles O36: a command fails before it starts, or after reads that the rollback undoes. -/
theorem failedCommandRollsBack : Obligations.FailedCommandRollsBack := by
  intro i s t h he
  cases exec_ends h with
  | illegal => exact ⟨⟨rfl, rfl, rfl, rfl, rfl⟩, ⟨rfl, rfl⟩, (Reads.refl s).sameSetup, rfl, rfl⟩
  | failed e u hr =>
    refine ⟨⟨rfl, rfl, rfl, hr.ckpt_eq, hr.result_eq⟩, hr.sameObu, hr.sameSetup, ?_, ?_⟩ <;> rw [hr] <;> rfl
  | read v u hr ht => exact absurd rfl he
  | framed v u hi hf ht => exact absurd rfl he
  | bound hi hw => exact absurd rfl he

/-- Settles O38: the ends that are left are those of an illegal command, a failed one and a read. -/
theorem readCommandsFrame : Obligations.ReadCommandsFrame := by
  intro i s t hobu hbind h
  cases exec_ends h with
  | illegal => exact ⟨(Reads.refl s).sameSetup, ⟨rfl, rfl⟩, fun _ => rfl, rfl⟩
  | failed e u hr => exact ⟨hr.sameSetup, hr.sameObu, fun _ => hr.result_eq, by rw [hr]; rfl⟩
  | read v u hr ht => exact ⟨hr.sameSetup, hr.sameObu, fun he => absurd rfl he, by rw [hr]; rfl⟩
  | framed v u hi hf ht => exact absurd hi hobu
  | bound hi hw => exact absurd hi hbind

/-! ### What a command reports (R93) -/

/-- A body that returns a value, or raises one of the five errors. -/
def Res.Reports (r : Res (Option Word)) : Prop := r.Ends (fun v _ => v ≠ none) fun e _ => e ≠ .none

theorem ReadError.ne_none {e : ErrCode} (h : ReadError e) : e ≠ .none := by
  rcases h with rfl | rfl <;> decide

theorem ReadBody.reports {s : State} {r : Res (Option Word)} (h : ReadBody s r) : r.Reports := by
  refine h.mono ?_ ?_
  · rintro v t ⟨⟨w, rfl⟩, -⟩
    exact Option.some_ne_none w
  · rintro e t ⟨-, h | ⟨rfl, -⟩⟩
    · exact h.ne_none
    · decide

theorem bodyObuHdr_reports (s : State) : (bodyObuHdr s).Reports := by
  refine (bodyObuHdr_ends s).mono ?_ ?_
  · rintro v t ⟨rfl, -⟩
    exact Option.some_ne_none _
  · rintro e t ⟨-, h | ⟨rfl, -⟩ | ⟨rfl, -⟩⟩
    · exact h.ne_none
    · decide
    · decide

theorem command_resValid {legal : Bool} {body : State → Res (Option Word)} {s t : State}
    (hbody : legal = true → (body s.checkpoint).Reports) (h : command legal body s = .next t) (he : t.err = .none) :
    t.resValid = true := by
  rcases command_eq_next.1 h with ⟨-, rfl⟩ | ⟨hl, ⟨v, u, -, rfl⟩ | ⟨u, hu, rfl⟩ | ⟨e, u, hu, rfl⟩⟩
  · cases he
  · rfl
  · have hrep := hbody hl
    rw [hu] at hrep
    exact absurd rfl hrep
  · have hrep := hbody hl
    rw [hu] at hrep
    exact absurd he hrep

/-- Every command but BIND that succeeds leaves a result. -/
theorem exec_resValid {i : Instr} {s t : State} (hi : i ≠ .bind) (h : exec i s = .next t) (he : t.err = .none) :
    t.resValid = true := by
  cases i with
  | f n => exact command_resValid (fun hl => (bodyF_ends hl _).reports) h he
  | f1 => exact command_resValid (legal := true) (fun _ => (bodyF1_ends _).reports) h he
  | uvlc => exact command_resValid (legal := true) (fun _ => (bodyUvlc_ends _).reports) h he
  | le n => exact command_resValid (fun _ => (bodyLe_ends n _).reports) h he
  | leb128 => exact command_resValid (legal := true) (fun _ => (bodyLeb128_ends _).reports) h he
  | su n => exact command_resValid (fun hl => (bodySu_ends hl _).reports) h he
  | ns n => exact command_resValid (fun _ => (bodyNs_ends n _).reports) h he
  | obuHdr => exact command_resValid (legal := true) (fun _ => bodyObuHdr_reports _) h he
  | bind => exact absurd rfl hi

theorem exec_bind_success {s t : State} (h : exec .bind s = .next t) (he : t.err = .none) :
    t = s.checkpoint.openSession.succeedNoValue := by
  rw [exec_bind_eq] at h
  cases h
  split at he
  next hw => rw [if_pos hw]
  next => cases he

/-- Settles O37: BIND by itself, and every other command by the value its body returns. -/
theorem successfulCommandReports : Obligations.SuccessfulCommandReports := by
  intro i s t h he
  refine ⟨(exec_ends h).busy_eq, ?_⟩
  by_cases hi : i = .bind
  · subst hi
    rw [exec_bind_success h he]
    exact ⟨iff_of_false Bool.false_ne_true fun hne => hne rfl, fun _ => rfl⟩
  · exact ⟨iff_of_true (exec_resValid hi h he) hi, fun hb => absurd hb hi⟩

end Sys2Proof.Machine
end

section
/-! Every command completes once each source read it issues is answered (40_command_cycle.md R97). -/

namespace Sys2Proof.Machine

/-- No answer still to come is one that never comes (20_memory.md R51). -/
def State.AlwaysAnswers (s : State) : Prop := ∀ a ∈ s.srcScript, a ≠ .never

theorem State.AlwaysAnswers.answerAt_ne_never {s : State} (h : s.AlwaysAnswers) (k : Nat) : s.answerAt k ≠ .never := by
  unfold State.answerAt
  split
  next a ha => exact h a (List.mem_of_getElem? ha)
  next => split <;> decide

theorem State.AlwaysAnswers.fetchByte {s : State} (h : s.AlwaysAnswers) (j : Nat) : (s.fetchByte j).AlwaysAnswers :=
  fun a ha => h a (List.mem_of_mem_tail ha)

/-- `r` is not stuck, and no read after it will be. -/
def Res.Completes {α : Type} : Res α → Prop
  | .ok _ t => t.AlwaysAnswers
  | .raise _ _ => True
  | .stuck => False

theorem Res.Completes.bind {α β : Type} {r : Res α} {k : α → State → Res β} (h : r.Completes)
    (hk : ∀ v t, t.AlwaysAnswers → (k v t).Completes) : (r.bind k).Completes := by
  cases r with
  | ok v t => exact hk v t h
  | raise e t => trivial
  | stuck => exact h.elim

theorem fillFrom_completes (k j : Nat) {s : State} (h : s.AlwaysAnswers) : (fillFrom k j s).Completes := by
  induction k generalizing j s with
  | zero => exact h
  | succ k ih =>
    by_cases hend : s.cur.foff = s.sessLen
    · rw [fillFrom_succ_of_end hend]
      exact h
    · cases ha : s.answerAt 0 with
      | data =>
        rw [fillFrom_succ_of_data hend ha]
        exact ih (j + 1) (h.fetchByte j)
      | err =>
        rw [fillFrom_succ_of_err hend ha]
        trivial
      | never => exact absurd ha (h.answerAt_ne_never 0)

theorem refill_completes {s : State} (h : s.AlwaysAnswers) : (refill s).Completes :=
  fillFrom_completes 4 0 (s := s.setCur { s.cur with acc := 0 }) h

theorem takeRest_completes (hi need : Nat) {s : State} (h : s.AlwaysAnswers) : (takeRest hi need s).Completes := by
  unfold takeRest
  split
  · trivial
  · exact h

theorem take_completes (n : Nat) {s : State} (h : s.AlwaysAnswers) : (take n s).Completes := by
  by_cases hv : n ≤ s.cur.valid.toNat
  · rw [take_of_held hv]
    exact h
  · rw [Nat.not_le] at hv
    cases he : s.cur.exh
    · rw [take_of_refill hv he]
      exact (refill_completes h).bind fun _ _ ht => takeRest_completes _ _ ht
    · rw [take_of_exhausted hv he]
      trivial

theorem Parser.completes {α : Type} {p : State → Res α} (hp : Parser p) {s : State} (h : s.AlwaysAnswers) :
    (p s).Completes := by
  induction hp generalizing s with
  | pure v => exact h
  | raise e he => trivial
  | take n hn => exact take_completes n h
  | writeObu v o w => exact h
  | look hp ih => exact ih _ _ _ h
  | bind hp hk ihp ihk => exact (ihp h).bind fun v _ ht => ihk v ht

/-- A command has a next state unless its body is stuck. -/
theorem command_completes {legal : Bool} {body : State → Res (Option Word)} {s : State}
    (h : legal = true → (body s.checkpoint).Completes) : ∃ t, command legal body s = .next t := by
  cases hc : command legal body s with
  | next t => exact ⟨t, rfl⟩
  | fault f =>
    obtain ⟨hl, hstuck⟩ := command_eq_fault.1 hc
    have hbody := h hl
    rw [hstuck] at hbody
    exact hbody.elim
  | refused r => exact absurd hc command_not_refused

theorem exec_completes (i : Instr) {s : State} (h : s.AlwaysAnswers) : ∃ t, exec i s = .next t := by
  by_cases hi : i = .bind
  · exact ⟨_, hi ▸ exec_bind_eq s⟩
  · obtain ⟨legal, body, hexec, hbody⟩ := exec_eq_command hi
    rw [hexec]
    exact command_completes fun hl => (hbody hl).completes (s := s.checkpoint) h

/-- Settles O35: a body that moves by `take` alone is stuck only at an answer that never comes. -/
theorem everyCommandCompletesOnceAnswered : Obligations.EveryCommandCompletesOnceAnswered := by
  intro i s h
  obtain ⟨t, ht⟩ := exec_completes i h
  exact ⟨t, ht, (exec_ends ht).busy_eq⟩

end Sys2Proof.Machine
end

section
/-! How many source reads a command makes at most (40_command_cycle.md R97). -/

namespace Sys2Proof.Machine

/-! ### Every read fetches one byte of the window -/

/-- From `s` to `t` each source read fetched the next byte of the window (20_memory.md R54). -/
structure Fetched (s t : State) : Prop where
  inRange : t.InRange
  sessLen : t.sessLen = s.sessLen
  draws : t.draws + s.cur.foff.toNat = s.draws + t.cur.foff.toNat

theorem Fetched.refl {s : State} (hs : s.InRange) : Fetched s s := ⟨hs, rfl, rfl⟩

theorem Fetched.trans {s t u : State} (h : Fetched s t) (h' : Fetched t u) : Fetched s u := by
  have hd := h.draws
  have hd' := h'.draws
  exact ⟨h'.inRange, h'.sessLen.trans h.sessLen, by omega⟩

theorem Fetched.draws_le {s t : State} (h : Fetched s t) : t.draws ≤ s.draws + s.unfetched := by
  have hd := h.draws
  have hin := h.inRange
  unfold State.InRange at hin
  rw [h.sessLen] at hin
  unfold State.unfetched
  omega

theorem Fetched.unfetched {s t : State} (hs : s.InRange) (h : Fetched s t) :
    t.draws + t.unfetched = s.draws + s.unfetched := by
  have hd := h.draws
  have hin := h.inRange
  unfold State.InRange at hs hin
  unfold State.unfetched
  rw [h.sessLen] at *
  omega

theorem Filled.fetched {s t : State} (hs : s.InRange) (h : Filled s 0 4 (min 4 s.unfetched) t) : Fetched s t := by
  have hlen : t.sessLen = s.sessLen := by rw [h.frame]
  have hdraws : t.draws = s.draws + min 4 s.unfetched := by rw [h.frame]
  have hfoff := h.foff
  refine ⟨?_, hlen, by omega⟩
  unfold State.InRange at *
  unfold State.unfetched at hfoff
  rw [hlen]
  omega

theorem take_fetched {n v : Nat} {s t : State} (hs : s.InRange) (h : take n s = .ok v t) : Fetched s t := by
  rcases take_eq_ok hs h with ⟨-, rfl⟩ | ⟨-, -, u, hu, -, rfl⟩
  · exact ⟨hs, rfl, rfl⟩
  · have hf := hu.fetched hs
    exact ⟨hf.inRange, hf.sessLen, hf.draws⟩

/-- A `take` that raises an error held too few bits, and made the reads of one refill at most. -/
theorem take_eq_raise {n : Nat} {e : ErrCode} {s t : State} (hs : s.InRange) (h : take n s = .raise e t) :
    s.cur.valid.toNat < n ∧ t.draws ≤ s.draws + min 4 s.unfetched := by
  by_cases hv : n ≤ s.cur.valid.toNat
  · rw [take_of_held hv] at h
    cases h
  · rw [Nat.not_le] at hv
    refine ⟨hv, ?_⟩
    cases he : s.cur.exh
    · rw [take_of_refill hv he, Res.bind_eq_raise] at h
      rcases h with hr | ⟨_, u, hr, h⟩
      · cases hr ▸ refill_cases hs with
        | failed i t hi ho hd => omega
      · cases hr ▸ refill_cases hs with
        | filled u ha hu =>
          have hdraws : u.draws = s.draws + min 4 s.unfetched := by rw [hu.frame]
          unfold takeRest at h
          split at h <;> cases h
          exact hdraws.le
    · rw [take_of_exhausted hv he] at h
      cases h
      exact Nat.le_add_right _ _

theorem Parser.fetches {α : Type} {p : State → Res α} (hp : Parser p) {s : State} (hs : s.InRange) :
    (p s).Ends (fun _ t => Fetched s t) fun e t => e ≠ .none ∧ t.draws ≤ s.draws + s.unfetched := by
  refine hp.ends (I := Fetched s) (fun e t he ht => ⟨he, ht.draws_le⟩) (fun n t hn ht => ?_)
    (fun t _ _ ht => ⟨ht.inRange, ht.sessLen, ht.draws⟩) s (.refl hs)
  cases h : Machine.take n t with
  | ok v u => exact ht.trans (take_fetched ht.inRange h)
  | raise e u =>
    have hle := (take_eq_raise ht.inRange h).2
    have hrest := ht.unfetched hs
    exact ⟨take_error_ne_none hn h, by omega⟩
  | stuck => trivial

/-- The reads of a command other than BIND: a byte of the window each. -/
theorem exec_fetches {i : Instr} {s t : State} (hs : s.InRange) (hi : i ≠ .bind) (h : exec i s = .next t) :
    t.draws ≤ s.draws + s.unfetched ∧ (t.err = .none → t.draws + s.cur.foff.toNat = s.draws + t.cur.foff.toNat) := by
  obtain ⟨legal, body, hexec, hbody⟩ := exec_eq_command hi
  rw [hexec] at h
  rcases command_eq_next.1 h with ⟨-, rfl⟩ | ⟨hl, hends⟩
  · exact ⟨Nat.le_add_right _ _, fun he => (by cases he)⟩
  · have hf := (hbody hl).fetches (s := s.checkpoint) hs
    rcases hends with ⟨v, u, hu, rfl⟩ | ⟨u, hu, rfl⟩ | ⟨e, u, hu, rfl⟩ <;> rw [hu] at hf
    · exact ⟨hf.draws_le, fun _ => hf.draws⟩
    · exact ⟨hf.draws_le, fun _ => hf.draws⟩
    · exact ⟨hf.2, fun he => absurd he hf.1⟩

/-- A successful command that consumes `c` bits makes at most `ceil(c/8) + 4` reads: its refills are the fewest. -/
theorem exec_reads_le_of_success {i : Instr} {s t : State} (hs : s.Inv) (hi : i ≠ .bind) (h : exec i s = .next t)
    (he : t.err = .none) : s.readsTo t ≤ (t.pos - s.pos + 7) / 8 + 4 := by
  obtain ⟨⟨hfoff, -⟩, hpos⟩ := refillsAreLazy i s t hs hi h he
  have hdraws := (exec_fetches hs.windowOk.1 hi h).2 he
  have hreach := hfoff.trans_le (Nat.min_le_right _ _)
  have hheld : s.pos ≤ 8 * s.cur.foff.toNat := Nat.sub_le _ _
  unfold State.readsTo
  omega

/-! ### The reads of each command -/

/-- The parser `p` takes at most `k` times and `n` bits in all: each `take` refills at most once, of 4 bytes, and a refill
comes only when the bits held do not reach (20_memory.md R55). -/
def Costs {α : Type} (k n : Nat) (p : State → Res α) : Prop :=
  ∀ s : State, s.Tidy → (p s).Ends
    (fun _ t => t.Tidy ∧ t.draws ≤ s.draws + 4 * k ∧
      8 * t.draws + s.cur.valid.toNat ≤ 8 * s.draws + t.cur.valid.toNat + n)
    fun _ t => t.draws ≤ s.draws + 4 * k ∧ 8 * t.draws + s.cur.valid.toNat ≤ 8 * s.draws + n + 32

theorem State.Tidy.valid_le {s : State} (h : s.Tidy) : s.cur.valid.toNat ≤ 32 := h.1.1

theorem State.Tidy.inRange {s : State} (h : s.Tidy) : s.InRange := by
  obtain ⟨⟨-, -, hin, -⟩, -⟩ := h
  exact hin

theorem Costs.pure {α : Type} (v : α) : Costs 0 0 fun s => .ok v s :=
  fun _ hs => ⟨hs, Nat.le_refl _, Nat.le_refl _⟩

theorem Costs.raise {α : Type} (e : ErrCode) : Costs 0 0 fun s => (.raise e s : Res α) :=
  fun _ hs => ⟨Nat.le_refl _, Nat.add_le_add_left hs.valid_le _⟩

theorem Costs.writeObu {α : Type} (v : α) (o : ObuRegs) (w : Bool) : Costs 0 0 fun s => .ok v (s.writeObu o w) :=
  fun _ hs => ⟨hs, Nat.le_refl _, Nat.le_refl _⟩

theorem Costs.mono {α : Type} {k k' n n' : Nat} {p : State → Res α} (h : Costs k n p) (hk : k ≤ k') (hn : n ≤ n') :
    Costs k' n' p :=
  fun s hs => (h s hs).mono (fun _ _ ⟨ht, htakes, hbits⟩ => ⟨ht, by omega, by omega⟩)
    fun _ _ ⟨htakes, hbits⟩ => ⟨by omega, by omega⟩

theorem Costs.take (n : Nat) : Costs 1 n (Machine.take n) := by
  intro s hs
  have htidy := take_tidy n hs
  cases h : Machine.take n s with
  | ok v t =>
    rw [h] at htidy
    refine ⟨htidy, ?_⟩
    rcases take_eq_ok hs.inRange h with ⟨hn, rfl⟩ | ⟨hn, -, u, hu, hneed, rfl⟩
    · rw [State.setCur_cur, s.cur.drop_valid hn, State.setCur_draws]
      omega
    · have hdraws : u.draws = s.draws + min 4 s.unfetched := by rw [hu.frame]
      have hvalid := hu.valid
      rw [State.setCur_cur, u.cur.drop_valid hneed, State.setCur_draws]
      omega
  | raise e t =>
    obtain ⟨hn, hdraws⟩ := take_eq_raise hs.inRange h
    exact ⟨by omega, by omega⟩
  | stuck => trivial

theorem Costs.bind {α β : Type} {k k' n n' : Nat} {p : State → Res α} {q : α → State → Res β} (hp : Costs k n p)
    (hq : ∀ v, Costs k' n' (q v)) : Costs (k + k') (n + n') fun s => (p s).bind q := by
  intro s hs
  refine ((hp s hs).mono (fun _ _ h => h) fun _ _ ⟨htakes, hbits⟩ => ⟨by omega, by omega⟩).bind ?_
  rintro v t ⟨ht, htakes, hbits⟩
  exact (hq v t ht).mono (fun _ _ ⟨hu, htakes', hbits'⟩ => ⟨hu, by omega, by omega⟩)
    fun _ _ ⟨htakes', hbits'⟩ => ⟨by omega, by omega⟩

theorem Costs.ite {α : Type} {k n : Nat} {c : Prop} [Decidable c] {p q : State → Res α} (hp : Costs k n p)
    (hq : Costs k n q) : Costs k n fun s => if c then p s else q s := by
  split
  · exact hp
  · exact hq

theorem ret_costs (v : Nat) : Costs 0 0 (ret v) := .pure _

theorem onByteBoundary_costs {k n : Nat} {body : State → Res (Option Word)} (h : Costs k n body) :
    Costs k n (onByteBoundary body) := by
  intro s hs
  unfold onByteBoundary
  split
  · exact h s hs
  · exact (Costs.raise _).mono (Nat.zero_le k) (Nat.zero_le n) s hs

theorem bodyF_costs (n : BitVec 32) : Costs 1 n.toNat (bodyF n) := (Costs.take _).bind ret_costs

theorem bodyF1_costs : Costs 1 1 bodyF1 := (Costs.take 1).bind ret_costs

theorem bodySu_costs (n : BitVec 32) : Costs 1 n.toNat (bodySu n) := (Costs.take _).bind fun _ => .pure _

theorem bodyNs_costs (n : BitVec 32) : Costs 2 32 (bodyNs n) :=
  have hwidth := nsWidth_le n
  have hlast (v : Nat) : Costs 1 1 fun s => if v < nsShort n.toNat then ret v s
      else (take 1 s).bind fun e => ret (2 * v - nsShort n.toNat + e) :=
    .ite ((ret_costs v).mono (Nat.zero_le _) (Nat.zero_le _)) ((Costs.take 1).bind fun _ => ret_costs _)
  ((Costs.take _).bind hlast).mono (Nat.le_refl _) (by omega)

theorem leBytes_costs (m i v : Nat) : Costs m (8 * m) (leBytes m i v) := by
  induction m generalizing i v with
  | zero => exact .pure v
  | succ m ih => exact ((Costs.take 8).bind fun _ => ih _ _).mono (by omega) (by omega)

theorem bodyLe_costs (n : BitVec 32) : Costs n.toNat (8 * n.toNat) (bodyLe n) :=
  onByteBoundary_costs ((leBytes_costs _ 0 0).bind ret_costs)

theorem lebBytes_costs (m i v : Nat) : Costs m (8 * m) (lebBytes m i v) := by
  induction m generalizing i v with
  | zero => exact .pure _
  | succ m ih =>
    exact ((Costs.take 8).bind fun b =>
      .ite ((Costs.pure _).mono (Nat.zero_le _) (Nat.zero_le _)) (ih _ _)).mono (by omega) (by omega)

theorem bodyLeb128_costs : Costs 8 64 bodyLeb128 :=
  onByteBoundary_costs ((lebBytes_costs 8 0 0).bind fun v => ret_costs v.1)

/-! ### OBU_HDR: at most 10 bytes -/

theorem checkReserved_costs (dirty : Bool) : Costs 0 0 (checkReserved dirty) := by
  intro s hs
  unfold checkReserved
  split
  · exact Costs.raise _ s hs
  · exact Costs.pure _ s hs

theorem readHeader_costs : Costs 1 8 readHeader :=
  (Costs.take 8).bind fun _ => (checkReserved_costs _).bind fun _ => .pure _

theorem readExt_costs (present : Bool) : Costs 1 8 (readExt present) :=
  .ite ((Costs.take 8).bind fun _ => (checkReserved_costs _).bind fun _ => .pure _)
    ((Costs.pure _).mono (Nat.zero_le _) (Nat.zero_le _))

theorem readSize_costs (present : Bool) : Costs 8 64 (readSize present) :=
  .ite (lebBytes_costs 8 0 0) ((Costs.pure _).mono (Nat.zero_le _) (Nat.zero_le _))

theorem payloadLength_costs (hasSize : Bool) (size rem : Nat) : Costs 0 0 (payloadLength hasSize size rem) :=
  .ite (.ite (.raise _) (.pure _)) (.pure _)

theorem frameObu_costs (h : HeaderByte) (x : ExtByte) (sz : Nat × Nat) : Costs 0 0 (frameObu h x sz) := by
  intro s hs
  rw [frameObu_eq]
  exact (payloadLength_costs _ _ _).bind (fun _ => .writeObu _ _ _) s hs

theorem bodyObuHdr_costs : Costs 10 80 bodyObuHdr :=
  onByteBoundary_costs <| readHeader_costs.bind fun h => (readExt_costs h.ext).bind fun x =>
    (readSize_costs h.hasSize).bind fun sz => frameObu_costs h x sz

/-! ### The bounds -/

/-- ACC holds at most 32 bits, so `n` bits taken are at most `n + 32` bits fetched. -/
theorem Costs.draws_le {α : Type} {k n : Nat} {p : State → Res α} (h : Costs k n p) {s : State} (hs : s.Tidy) :
    (p s).Ends (fun _ t => t.draws ≤ s.draws + 4 * k ∧ 8 * t.draws ≤ 8 * s.draws + n + 32)
      fun _ t => t.draws ≤ s.draws + 4 * k ∧ 8 * t.draws ≤ 8 * s.draws + n + 32 := by
  refine (h s hs).mono ?_ ?_
  · rintro v t ⟨ht, htakes, hbits⟩
    have hheld := ht.valid_le
    exact ⟨htakes, by omega⟩
  · rintro e t ⟨htakes, hbits⟩
    exact ⟨htakes, by omega⟩

theorem command_draws_le {k n : Nat} {legal : Bool} {body : State → Res (Option Word)} {s t : State}
    (hc : Costs k n body) (hs : s.Tidy) (h : command legal body s = .next t) :
    t.draws ≤ s.draws + 4 * k ∧ 8 * t.draws ≤ 8 * s.draws + n + 32 := by
  rcases command_eq_next.1 h with ⟨-, rfl⟩ | ⟨-, hends⟩
  · exact ⟨Nat.le_add_right _ _, Nat.le_add_right _ (n + 32)⟩
  · have hdraws := hc.draws_le (s := s.checkpoint) hs
    rcases hends with ⟨v, u, hu, rfl⟩ | ⟨u, hu, rfl⟩ | ⟨e, u, hu, rfl⟩ <;> rw [hu] at hdraws <;> exact hdraws

theorem command_reads_le {k n : Nat} {legal : Bool} {body : State → Res (Option Word)} {s t : State}
    (hc : Costs k n body) (hs : s.Tidy) (h : command legal body s = .next t) :
    s.readsTo t ≤ 4 * k ∧ 8 * s.readsTo t ≤ n + 32 := by
  obtain ⟨htakes, hbits⟩ := command_draws_le hc hs h
  unfold State.readsTo
  exact ⟨by omega, by omega⟩

/-- BIND reads no source byte (43_session.md R150). -/
theorem exec_bind_reads {s t : State} (h : exec .bind s = .next t) : s.readsTo t = 0 := by
  rw [exec_bind_eq] at h
  cases h
  split <;> exact Nat.sub_self _

theorem exec_reads_le_unfetched {i : Instr} {s t : State} (hs : s.InRange) (h : exec i s = .next t) :
    s.readsTo t ≤ s.unfetched := by
  by_cases hi : i = .bind
  · subst hi
    exact (exec_bind_reads h).trans_le (Nat.zero_le _)
  · have hle := (exec_fetches hs hi h).1
    unfold State.readsTo
    omega

/-- Settles O45: each read fetches a byte of the window, the refills are the fewest, and each body has its cost. -/
theorem sourceReadsAreBounded : Obligations.SourceReadsAreBounded := by
  intro i s t hs h
  refine ⟨exec_reads_le_unfetched hs.windowOk.1 h, fun hi he => exec_reads_le_of_success hs hi h he, ?_⟩
  have htidy := (State.inv_iff.1 hs).1
  cases i with
  | f n => exact (command_reads_le (bodyF_costs n) htidy h).1
  | f1 => exact (command_reads_le (legal := true) bodyF1_costs htidy h).1
  | uvlc => trivial
  | le n =>
    have hbits := (command_reads_le (bodyLe_costs n) htidy h).2
    dsimp only
    omega
  | leb128 =>
    have hbits := (command_reads_le (legal := true) bodyLeb128_costs htidy h).2
    dsimp only
    omega
  | su n => exact (command_reads_le (bodySu_costs n) htidy h).1
  | ns n => exact (command_reads_le (bodyNs_costs n) htidy h).1
  | obuHdr =>
    have hbits := (command_reads_le (legal := true) bodyObuHdr_costs htidy h).2
    dsimp only
    omega
  | bind => exact exec_bind_reads h

end Sys2Proof.Machine
end

section
/-! The bodies of the commands as parsers of the unread bit sequence: what one returns and leaves of it, or that it runs
out of bits (10_state.md R28, 20_memory.md R56). -/

namespace Sys2Proof.Machine

/-! ### A session whose source answers to its end -/

/-- The invariant, an undisturbed window, and a source that answers every read still to come. -/
def State.Live (s : State) : Prop := s.Ready s.unfetched

theorem State.Ready.mono {s : State} {j k : Nat} (h : s.Ready k) (hjk : j ≤ k) : s.Ready j := by
  obtain ⟨hinv, hu, hans⟩ := h
  exact ⟨hinv, hu, fun i hi => hans i (by omega)⟩

theorem State.Live.inv {s : State} (h : s.Live) : s.Inv := h.1

theorem State.Live.answers {s : State} (h : s.Live) (k : Nat) : s.SourceAnswers k := by
  obtain ⟨-, -, hans⟩ := h
  exact fun i hi => hans i (by omega)

/-- A read that makes `m` answered reads leaves the answers after them. -/
theorem Answered.sourceAnswers {s t : State} {m k : Nat} (ha : Answered s t m) (hf : Fetched s t) (hs : s.InRange)
    (h : s.SourceAnswers (m + k)) : t.SourceAnswers k := by
  intro i hi
  have hrest := hf.unfetched hs
  have hdraws := ha.draws
  rw [ha.answerAt]
  exact h _ (by omega)

theorem take_answered {n v : Nat} {s t : State} (hs : s.InRange) (h : take n s = .ok v t) : ∃ m, Answered s t m := by
  have hf := take_follows n hs
  rw [h] at hf
  generalize take n s.allAnswered = r at hf
  cases hf with
  | ok m v t ha hin => exact ⟨m, ha⟩

theorem State.Live.take {n v : Nat} {s t : State} (hs : s.Live) (hn : n ≤ 32) (h : Machine.take n s = .ok v t) :
    t.Live := by
  obtain ⟨hinv, hu, -⟩ := id hs
  have hin := hinv.windowOk.1
  obtain ⟨m, ha⟩ := take_answered hin h
  exact ⟨hinv.take hn h, hu.take hin hn h, ha.sourceAnswers (take_fetched hin h) hin (hs.answers _)⟩

/-- With every read answered, the session is live. -/
theorem State.Ready.allAnswered {s : State} {k : Nat} (h : s.Ready k) : s.allAnswered.Live := by
  obtain ⟨hinv, hu, -⟩ := h
  refine ⟨hinv, hu, fun i hi => ?_⟩
  have hi : i < s.unfetched := hi.trans_le (Nat.min_le_right _ _)
  simp [State.answerAt, State.allAnswered, hi]

/-- POS counts from the other end of the window what is unread (10_state.md R27 and R28). -/
theorem State.Inv.pos_add_unread {s : State} (h : s.Inv) : s.pos + s.unread.length = 8 * s.sessLen.toNat := by
  obtain ⟨⟨-, hv, hlen, -⟩, -⟩ := h
  rw [State.unread_length, State.pos, State.unfetched]
  omega

/-- The alignment test on VALID is one on the number of unread bits (20_memory.md R59). -/
theorem State.aligned_iff_unread (s : State) : s.aligned = true ↔ s.unread.length % 8 = 0 := by
  rw [State.aligned, decide_eq_true_iff, State.unread_length]
  omega

theorem State.Inv.aligned_iff {s : State} (h : s.Inv) : s.aligned = true ↔ s.pos % 8 = 0 := by
  have hpos := h.pos_add_unread
  rw [s.aligned_iff_unread]
  omega

/-! ### Parsers on the unread sequence -/

/-- In a live state whose unread sequence is `u`, `p` returns `v` and leaves `r` unread. -/
def Yields {α : Type} (p : State → Res α) (u : List Bool) (v : α) (r : List Bool) : Prop :=
  ∀ s : State, s.Live → s.unread = u → ∃ t, p s = .ok v t ∧ t.Live ∧ t.unread = r

/-- In a live state whose unread sequence is `u`, `p` raises EndOfStream. -/
def RunsOut {α : Type} (p : State → Res α) (u : List Bool) : Prop :=
  ∀ s : State, s.Live → s.unread = u → ∃ t, p s = .raise .endOfStream t

theorem Yields.pure {α : Type} (v : α) (u : List Bool) : Yields (fun s => .ok v s) u v u :=
  fun s hs hu => ⟨s, rfl, hs, hu⟩

theorem ret_yields (v : Nat) (u : List Bool) : Yields (ret v) u (some (BitVec.ofNat 64 v)) u := .pure _ u

section
variable {α β : Type} {p : State → Res α} {k : α → State → Res β} {u u' r : List Bool} {v : α} {w : β}

theorem Yields.bind (hp : Yields p u v u') (hk : Yields (k v) u' w r) : Yields (fun s => (p s).bind k) u w r := by
  intro s hs hu
  obtain ⟨t, ht, hlive, hu'⟩ := hp s hs hu
  obtain ⟨t', ht', hlive', hr⟩ := hk t hlive hu'
  exact ⟨t', Res.bind_eq_ok.2 ⟨v, t, ht, ht'⟩, hlive', hr⟩

theorem RunsOut.bind (hp : RunsOut p u) : RunsOut (fun s => (p s).bind k) u := by
  intro s hs hu
  obtain ⟨t, ht⟩ := hp s hs hu
  exact ⟨t, Res.bind_eq_raise.2 (.inl ht)⟩

theorem Yields.bind_runsOut (hp : Yields p u v u') (hk : RunsOut (k v) u') : RunsOut (fun s => (p s).bind k) u := by
  intro s hs hu
  obtain ⟨t, ht, hlive, hu'⟩ := hp s hs hu
  obtain ⟨t', ht'⟩ := hk t hlive hu'
  exact ⟨t', Res.bind_eq_raise.2 (.inr ⟨v, t, ht, ht'⟩)⟩

variable {c : Prop} [Decidable c] {q : State → Res α}

theorem Yields.ite_pos (hc : c) (hp : Yields p u v r) : Yields (fun s => if c then p s else q s) u v r := by
  simpa only [if_pos hc] using hp

theorem Yields.ite_neg (hc : ¬ c) (hq : Yields q u v r) : Yields (fun s => if c then p s else q s) u v r := by
  simpa only [if_neg hc] using hq

theorem RunsOut.ite_neg (hc : ¬ c) (hq : RunsOut q u) : RunsOut (fun s => if c then p s else q s) u := by
  simpa only [if_neg hc] using hq

end

theorem take_yields {n : Nat} {u : List Bool} (hn : n ≤ 32) (hu : n ≤ u.length) :
    Yields (take n) u (bitsVal (u.take n)) (u.drop n) := by
  rintro s hs rfl
  obtain ⟨t, ht, hr⟩ := take_of_le_unread hn hs.inv hs.2.1 (hs.answers 4) hu
  exact ⟨t, ht, hs.take hn ht, hr⟩

theorem take_runsOut {n : Nat} {u : List Bool} (hu : u.length < n) : RunsOut (take n) u := by
  rintro s hs rfl
  exact take_of_unread_lt hs.inv.windowOk.1 (hs.answers 4) hu

theorem take_one_yields (b : Bool) (u : List Bool) : Yields (take 1) (b :: u) b.toNat u := by
  have h := take_yields (n := 1) (u := b :: u) (by decide) (by simp)
  simpa [bitsVal_cons] using h

theorem onByteBoundary_yields {body : State → Res (Option Word)} {u r : List Bool} {v : Option Word}
    (ha : u.length % 8 = 0) (h : Yields body u v r) : Yields (onByteBoundary body) u v r := by
  rintro s hs rfl
  rw [onByteBoundary, if_pos (s.aligned_iff_unread.2 ha)]
  exact h s hs rfl

theorem onByteBoundary_runsOut {body : State → Res (Option Word)} {u : List Bool} (ha : u.length % 8 = 0)
    (h : RunsOut body u) : RunsOut (onByteBoundary body) u := by
  rintro s hs rfl
  rw [onByteBoundary, if_pos (s.aligned_iff_unread.2 ha)]
  exact h s hs rfl

/-! ### From the body to the command -/

/-- The source makes at most `k` reads for the command `i` in `s` when it answers them all. -/
def State.Affords (s : State) (i : Instr) (k : Nat) : Prop := ∀ t, exec i s.allAnswered = .next t → s.readsTo t ≤ k

theorem affords_unfetched (i : Instr) {s : State} (hs : s.Inv) : s.Affords i s.unfetched :=
  fun _ ht => exec_reads_le_unfetched (s := s.allAnswered) hs.windowOk.1 ht

/-- A source that answers the reads a command makes lets it end as if it answered every read. -/
theorem exec_of_ready {i : Instr} {s t : State} {k : Nat} (hs : s.Ready k) (hk : s.Affords i k)
    (h : exec i s.allAnswered = .next t) :
    exec i s = .next { t with srcScript := s.srcScript.drop (s.readsTo t) } := by
  obtain ⟨hinv, -, hans⟩ := hs
  have hle := affords_unfetched i hinv t h
  have hlek := hk t h
  exact (sourceAnswersDecideTheOutcome i s t hinv h).1 fun j hj => hans j (by omega)

/-- The command `i` succeeds in `s` with the result `w`, ends in `t`, and leaves `r` unread. -/
structure Delivers (i : Instr) (s : State) (w : Word) (r : List Bool) (t : State) : Prop where
  next : exec i s = .next t
  succeeded : t.Succeeded w
  unread : t.unread = r

section
variable {i : Instr} {s : State} {k : Nat} {legal : Bool} {body : State → Res (Option Word)}

theorem exec_delivers {w : Word} {r : List Bool} (hexec : exec i = command legal body) (hl : legal = true)
    (hy : Yields body s.unread (some w) r) (hs : s.Ready k) (hk : s.Affords i k) : ∃ t, Delivers i s w r t := by
  obtain ⟨u, hu, -, hr⟩ := hy s.allAnswered.checkpoint hs.allAnswered rfl
  have h : exec i s.allAnswered = .next (u.succeed w) := by
    rw [hexec, command, if_pos hl, hu]
    rfl
  exact ⟨_, exec_of_ready hs hk h, ⟨rfl, rfl, rfl, rfl⟩, hr⟩

theorem exec_failed {e : ErrCode} {t : State} (h : exec i s = .next t) (he : t.err = e) (hne : e ≠ .none) :
    s.Failed t e := by
  subst he
  exact (failedCommandRollsBack i s t h hne).1

theorem exec_runsOut (hexec : exec i = command legal body) (hl : legal = true) (hy : RunsOut body s.unread)
    (hs : s.Ready k) (hk : s.Affords i k) : ∃ t, exec i s = .next t ∧ s.Failed t .endOfStream := by
  obtain ⟨u, hu⟩ := hy s.allAnswered.checkpoint hs.allAnswered rfl
  have h : exec i s.allAnswered = .next (u.rollback.failWith .endOfStream) := by
    rw [hexec, command, if_pos hl, hu]
    rfl
  have hrun := exec_of_ready hs hk h
  exact ⟨_, hrun, exec_failed hrun rfl (by decide)⟩

/-- Off a byte boundary nothing is read (60_exceptions.md R164). -/
theorem exec_misaligned (hexec : exec i = command legal (onByteBoundary body)) (hl : legal = true) (hs : s.Inv)
    (hpos : s.pos % 8 ≠ 0) : ∃ t, exec i s = .next t ∧ s.Failed t .misaligned ∧ t.draws = s.draws := by
  have ha : ¬ s.checkpoint.aligned = true := fun h => hpos (hs.aligned_iff.1 h)
  have h : exec i s = .next (s.checkpoint.rollback.failWith .misaligned) := by
    rw [hexec, command, if_pos hl, onByteBoundary, if_neg ha]
    rfl
  exact ⟨_, h, exec_failed h rfl (by decide), rfl⟩

end

/-- A command other than BIND keeps the session. -/
theorem CommandEnds.session_eq {i : Instr} {s t : State} (h : CommandEnds i s t) (hi : i ≠ .bind) :
    t.sessBase = s.sessBase ∧ t.sessLen = s.sessLen ∧ t.tainted = s.tainted := by
  cases h with
  | illegal => exact ⟨rfl, rfl, rfl⟩
  | failed e u hr => rw [hr]; exact ⟨rfl, rfl, rfl⟩
  | read v u hr ht => rw [hr]; exact ⟨rfl, rfl, rfl⟩
  | framed v u hi hf ht =>
    obtain ⟨-, -, hu⟩ := hf
    rw [hu]
    exact ⟨rfl, rfl, rfl⟩
  | bound hb hw => exact absurd hb hi

section
variable {i : Instr} {s t : State} {w : Word} {r : List Bool}

theorem Delivers.result (h : Delivers i s w r t) : t.result = w := h.succeeded.1

theorem Delivers.err (h : Delivers i s w r t) : t.err = .none := h.succeeded.2.1

theorem Delivers.lazy (h : Delivers i s w r t) (hi : i ≠ .bind) (hs : s.Inv) : s.LazilyRefilled t :=
  (refillsAreLazy i s t hs hi h.next h.err).1

/-- POS moves by the bits consumed. -/
theorem Delivers.pos (h : Delivers i s w r t) (hi : i ≠ .bind) (hs : s.Inv) {n : Nat}
    (hn : s.unread.length = n + r.length) : t.pos = s.pos + n := by
  have hend := exec_ends h.next
  have hpos := hs.pos_add_unread
  have hpos' := (hend.inv hs).pos_add_unread
  obtain ⟨-, hlen, -⟩ := hend.session_eq hi
  rw [hlen, h.unread] at hpos'
  omega

theorem Delivers.pos_drop {n : Nat} (h : Delivers i s w (s.unread.drop n) t) (hi : i ≠ .bind) (hs : s.Inv)
    (hn : n ≤ s.unread.length) : t.pos = s.pos + n :=
  h.pos hi hs (by rw [List.length_drop]; omega)

end

/-- One `take`'s worth of bits needs at most one refill, and only when the bits held do not reach. -/
theorem State.LazilyRefilled.of_take {s t : State} {n : Nat} (h : s.LazilyRefilled t) (hs : s.Inv) (hn : n ≤ 32)
    (hpos : t.pos = s.pos + n) :
    t.cur.exh = (s.cur.exh || (decide (s.cur.valid.toNat < n) && decide (s.unfetched < 4))) ∧
      (n ≤ s.cur.valid.toNat → t.cur.foff = s.cur.foff) := by
  obtain ⟨⟨-, hv, hlen, -⟩, -⟩ := hs
  obtain ⟨hfoff, hexh⟩ := h
  have hend : t.pos = 8 * s.cur.foff.toNat - s.cur.valid.toNat + n := hpos
  rcases Nat.lt_or_ge s.cur.valid.toNat n with hlt | hge
  · have hq : (t.pos - 8 * s.cur.foff.toNat + 31) / 32 = 1 := by omega
    rw [hq] at hexh
    refine ⟨?_, fun h => by omega⟩
    rw [hexh, decide_eq_true hlt, Bool.true_and, State.unfetched]
    congr 1
    exact decide_eq_decide.2 (by omega)
  · have hq : (t.pos - 8 * s.cur.foff.toNat + 31) / 32 = 0 := by omega
    rw [hq] at hexh hfoff
    refine ⟨?_, fun _ => BitVec.eq_of_toNat_eq (by omega)⟩
    rw [hexh, decide_eq_false (by omega), decide_eq_false (by omega), Bool.false_and]

/-! ### The words and the errors that every command's statement names -/

/-- A word `ARG ‖ 0 ‖ OP` decodes to the command it stands for (30_encoding.md R70). -/
theorem decode_argOf_append (i : Instr) {lo : BitVec 32} (h : lo.toNat = (opcodeOf i).toNat) :
    decode (argOf i ++ lo) = .ok i := by
  rw [decode_eq_ok_iff_toNat, BitVec.toNat_append, ← Nat.shiftLeft_add_eq_or_of_lt lo.isLt, Nat.shiftLeft_eq, h]
  have hop := (opcodeOf i).isLt
  omega

/-- A source read that answers `Err` fails every command with SourceError (60_exceptions.md R162). -/
theorem sourceErrFails (i : Instr) {s : State} (hs : s.Inv) : SourceErrFails i s :=
  fun j t ht hj ho => ⟨_, (sourceAnswersDecideTheOutcome i s t hs ht).2.1 j hj ho, rfl⟩

/-- `a` is a legal ARG of the opcode `op` (30_encoding.md R71). -/
def LegalArg (op a : Nat) : Prop :=
  ((op = 0x01 ∨ op = 0x06) ∧ 1 ≤ a ∧ a ≤ 32) ∨ (op = 0x04 ∧ 1 ≤ a ∧ a ≤ 8) ∨ (op = 0x07 ∧ 1 ≤ a) ∨
    ((op = 0x02 ∨ op = 0x03 ∨ op = 0x05 ∨ op = 0x08 ∨ op = 0x09) ∧ a = 0)

theorem LegalWord.legalArg {w : Nat} {s : State} (h : LegalWord w s) : LegalArg (w % 2 ^ 8) (w / 2 ^ 32) := by
  obtain ⟨-, hrow⟩ := h
  unfold LegalArg
  omega

/-- A word whose argument `bad` shuts out of the legal ones of its opcode is illegal (30_encoding.md R73). -/
theorem badWordsFail {op : BitVec 8} {bad : Nat → Prop} {s : State} (h : ∀ a, LegalArg op.toNat a → ¬ bad a) :
    BadWordsFail op bad s := by
  intro hop hbad
  refine (illegalWordsFailAndChangeNothing s).1 fun (hl : LegalWord (fetch s).toNat s) => ?_
  have harg := hl.legalArg
  rw [← opField_toNat, hop, ← argField_toNat] at harg
  rcases hbad with hrsv | hbad
  · refine hrsv (BitVec.eq_of_toNat_eq ?_)
    rw [rsvField_toNat]
    exact hl.1
  · exact h _ harg hbad

end Sys2Proof.Machine
end

section
/-! The fixed-width reads: F, F1 and SU (41_cursor_reads.md R100, R101, R105, R107 and R109). -/

namespace Sys2Proof.Machine

/-! ### F -/

theorem f_affords (n : BitVec 32) {s : State} (hs : s.Inv) : s.Affords (.f n) 4 :=
  fun t ht => (sourceReadsAreBounded (.f n) s.allAnswered t hs ht).2.2

theorem bodyF_yields {n : BitVec 32} {u : List Bool} (hn : n.toNat ≤ 32) (hu : n.toNat ≤ u.length) :
    Yields (bodyF n) u (some (BitVec.ofNat 64 (bitsVal (u.take n.toNat)))) (u.drop n.toNat) :=
  (take_yields hn hu).bind (ret_yields _ _)

section
variable {n : BitVec 32} {s : State}

theorem exec_f_delivers (h1 : 1 ≤ n.toNat) (h32 : n.toNat ≤ 32) (hs : s.Ready 4) (hu : n.toNat ≤ s.unread.length) :
    ∃ t, Delivers (.f n) s (BitVec.ofNat 64 (bitsVal (s.unread.take n.toNat))) (s.unread.drop n.toNat) t :=
  exec_delivers rfl ((legalBits_iff n).2 ⟨h1, h32⟩) (bodyF_yields h32 hu) hs (f_affords n hs.1)

theorem exec_f_runsOut (h1 : 1 ≤ n.toNat) (h32 : n.toNat ≤ 32) (hs : s.Ready 4) (hu : s.unread.length < n.toNat) :
    ∃ t, exec (.f n) s = .next t ∧ s.Failed t .endOfStream :=
  exec_runsOut (body := bodyF n) rfl ((legalBits_iff n).2 ⟨h1, h32⟩) (take_runsOut hu).bind hs (f_affords n hs.1)

end

/-- A command that fetched no byte made no read. -/
theorem exec_draws_of_foff_eq {i : Instr} {s t : State} (hs : s.InRange) (h : exec i s = .next t) (he : t.err = .none)
    (hi : i ≠ .bind) (hf : t.cur.foff = s.cur.foff) : t.draws = s.draws := by
  have hd := (exec_fetches hs hi h).2 he
  rw [hf] at hd
  omega

/-- Settles O21: F is one `take`, whose refill, if any, is the laziest. -/
theorem fReadsTheNextBits : Obligations.FReadsTheNextBits := by
  intro s hs
  refine ⟨fun n h1 h32 hr => ⟨fun hu => ?_, exec_f_runsOut h1 h32 hr⟩, fun n => decode_argOf_append (.f n) rfl,
    fun n => sourceErrFails (.f n) hs, badWordsFail fun a ha => ?_⟩
  · obtain ⟨t, ht⟩ := exec_f_delivers h1 h32 hr hu
    have hpos := ht.pos_drop nofun hs hu
    obtain ⟨hexh, hheld⟩ := (ht.lazy nofun hs).of_take hs h32 hpos
    exact ⟨t, ht.next, ht.succeeded, ht.unread, hpos, hexh, fun hv =>
      ⟨exec_draws_of_foff_eq hs.windowOk.1 ht.next ht.err nofun (hheld hv), hheld hv⟩⟩
  · simp [LegalArg] at ha
    omega

/-! ### F1 -/

theorem bodyF1_yields (b : Bool) (u : List Bool) : Yields bodyF1 (b :: u) (some (BitVec.ofNat 64 b.toNat)) u :=
  (take_one_yields b u).bind (ret_yields _ _)

theorem exec_f1_eq (s : State) : exec .f1 s = exec (.f 1) s := rfl

theorem f1_affords {s : State} (hs : s.Inv) : s.Affords .f1 4 :=
  fun t ht => (sourceReadsAreBounded .f1 s.allAnswered t hs ht).2.2

/-- Settles O22: F1 is one `take` of one bit, which is what `f 1` is. -/
theorem f1ReadsOneBit : Obligations.F1ReadsOneBit := by
  intro s hs
  refine ⟨fun hr => ⟨fun b rest hu => ?_, fun hu => ?_⟩, decode_argOf_append .f1 (lo := 2) rfl, sourceErrFails .f1 hs,
    badWordsFail fun a ha => ?_⟩
  · obtain ⟨t, ht⟩ := exec_delivers (i := .f1) (body := bodyF1) rfl rfl (hu ▸ bodyF1_yields b rest) hr (f1_affords hs)
    refine ⟨t, t, ht.next, ?_, ht.unread, ht.pos nofun hs (by rw [hu, List.length_cons, Nat.add_comm]),
      exec_f1_eq s ▸ ht.next, rfl⟩
    cases b <;> exact ht.succeeded
  · exact exec_runsOut (body := bodyF1) rfl rfl (take_runsOut (by simp [hu])).bind hr (f1_affords hs)
  · simp [LegalArg] at ha
    omega

/-! ### SU -/

/-- The top bit of an `n`-bit pattern says whether it is in the upper half. -/
theorem suValue_eq {n m : Nat} (hn : 1 ≤ n) (hm : m < 2 ^ n) :
    suValue n m = if (2 : Int) ^ (n - 1) ≤ m then (m : Int) - 2 ^ n else m := by
  have hcast : (2 : Int) ^ (n - 1) ≤ m ↔ 2 ^ (n - 1) ≤ m := by exact_mod_cast Iff.rfl
  have htop : m.testBit (n - 1) = true ↔ 2 ^ (n - 1) ≤ m := by
    constructor
    · exact Nat.ge_two_pow_of_testBit
    · exact fun h => Nat.testBit_of_two_pow_le_and_two_pow_add_one_gt h (by rwa [Nat.sub_add_cancel hn])
  rw [suValue, if_congr (htop.trans hcast.symm) rfl rfl]

theorem suValue_bounds {n m : Nat} (hn : 1 ≤ n) (hm : m < 2 ^ n) :
    -(2 ^ (n - 1) : Int) ≤ suValue n m ∧ suValue n m ≤ 2 ^ (n - 1) - 1 := by
  have hm' : (m : Int) < 2 ^ n := by exact_mod_cast hm
  have hpow := mul_pow_sub_one (Nat.ne_of_gt hn) (2 : Int)
  rw [suValue_eq hn hm]
  split <;> omega

/-- Settles O43: the pattern of `v` is `v` itself, or `v + 2^n` when `v` is negative. -/
theorem suIsABijection : Obligations.SuIsABijection := by
  intro n hn _
  refine ⟨fun m hm => suValue_bounds hn hm, fun v hlo hhi => ?_⟩
  have hpow := mul_pow_sub_one (Nat.ne_of_gt hn) (2 : Int)
  have hcast (m : Nat) : m < 2 ^ n ↔ (m : Int) < 2 ^ n := by exact_mod_cast Iff.rfl
  have hval (m : Nat) (hm : (m : Int) < 2 ^ n) : suValue n m = v ↔ (m : Int) = if v < 0 then v + 2 ^ n else v := by
    rw [suValue_eq hn ((hcast m).2 hm)]
    split <;> split <;> omega
  refine ⟨(if v < 0 then v + 2 ^ n else v).toNat, ?_, ?_, fun m' hm' h' => ?_⟩
  · rw [hcast]
    split <;> omega
  · rw [hval] <;> split <;> omega
  · rw [hval m' ((hcast m').1 hm')] at h'
    omega

theorem su_affords (n : BitVec 32) {s : State} (hs : s.Inv) : s.Affords (.su n) 4 :=
  fun t ht => (sourceReadsAreBounded (.su n) s.allAnswered t hs ht).2.2

theorem bodySu_yields {n : BitVec 32} {u : List Bool} (hn : n.toNat ≤ 32) (hu : n.toNat ≤ u.length) :
    Yields (bodySu n) u (some (BitVec.ofInt 64 (suValue n.toNat (bitsVal (u.take n.toNat))))) (u.drop n.toNat) :=
  (take_yields hn hu).bind (.pure _ _)

theorem bitsVal_take_lt (u : List Bool) (n : Nat) : bitsVal (u.take n) < 2 ^ n :=
  (bitsVal_lt _).trans_le (Nat.pow_le_pow_right (by decide) (List.length_take_le _ _))

/-- Settles O26: SU is one `take`, and its value is the pattern's. -/
theorem suReadsTwosComplement : Obligations.SuReadsTwosComplement := by
  intro s hs
  refine ⟨fun n h1 h32 hr => ?_, fun n => decode_argOf_append (.su n) rfl, fun n => sourceErrFails (.su n) hs,
    badWordsFail fun a ha => ?_⟩
  · have hl := (legalBits_iff n).2 ⟨h1, h32⟩
    refine ⟨fun hu => ?_, fun hu =>
      exec_runsOut (body := bodySu n) rfl hl (take_runsOut hu).bind hr (su_affords n hs)⟩
    obtain ⟨t, ht⟩ := exec_delivers rfl hl (bodySu_yields h32 hu) hr (su_affords n hs)
    have hpos := ht.pos_drop nofun hs hu
    have hval := ht.succeeded
    rw [suValue_eq h1 (bitsVal_take_lt _ _)] at hval
    exact ⟨t, ht.next, hval, ht.unread, hpos, ((ht.lazy nofun hs).of_take hs h32 hpos).1⟩
  · simp [LegalArg] at ha
    omega

end Sys2Proof.Machine
end

section
/-! The variable-length codes: UVLC and NS (41_cursor_reads.md R102 and R106). -/

namespace Sys2Proof.Machine

/-! ### UVLC -/

/-- A run of `k` zeros and its one bit, after `c` zeros already counted. -/
theorem uvlcRun_yields {fuel c k : Nat} (hk : k < fuel) (hc : c ≤ 32) (rest : List Bool) :
    Yields (uvlcRun fuel c) (List.replicate k false ++ true :: rest) (min (c + k) 32) rest := by
  induction fuel generalizing c k with
  | zero => omega
  | succ fuel ih =>
    cases k with
    | zero =>
      rw [show min (c + 0) 32 = c from Nat.min_eq_left hc]
      exact (take_one_yields true rest).bind (.ite_pos rfl (.pure c rest))
    | succ k =>
      have hcount : min (min (c + 1) 32 + k) 32 = min (c + (k + 1)) 32 := by omega
      rw [← hcount]
      exact (take_one_yields false _).bind (.ite_neg (by decide) (ih (by omega) (Nat.min_le_right _ _)))

/-- A run that the window cuts off. -/
theorem uvlcRun_runsOut (fuel c k : Nat) : RunsOut (uvlcRun fuel c) (List.replicate k false) := by
  induction fuel generalizing c k with
  | zero => exact fun s _ _ => ⟨s, rfl⟩
  | succ fuel ih =>
    cases k with
    | zero => exact (take_runsOut (by decide)).bind
    | succ k => exact (take_one_yields false _).bind_runsOut (.ite_neg (by decide) (ih _ k))

section
variable {k : Nat} (rest : List Bool)

/-- A run that a window can hold does not use up the fuel. -/
theorem uvlcRun_yields_of_lt (hk : k < 2 ^ 36) :
    Yields (uvlcRun uvlcFuel 0) (List.replicate k false ++ true :: rest) (min k 32) rest := by
  have h := uvlcRun_yields (fuel := uvlcFuel) (c := 0) hk (by decide) rest
  rwa [Nat.zero_add] at h

variable {rest}

theorem bodyUvlc_yields (hk : k ≤ 31) (hrest : k ≤ rest.length) :
    Yields bodyUvlc (List.replicate k false ++ true :: rest)
      (some (BitVec.ofNat 64 (bitsVal (rest.take k) + 2 ^ k - 1))) (rest.drop k) := by
  have hrun := uvlcRun_yields_of_lt (k := k) rest (by omega)
  rw [Nat.min_eq_left (by omega)] at hrun
  exact hrun.bind (.ite_neg (by omega) ((take_yields (by omega) hrest).bind (ret_yields _ _)))

theorem bodyUvlc_yields_sat (hk : 32 ≤ k) (hfuel : k < 2 ^ 36) :
    Yields bodyUvlc (List.replicate k false ++ true :: rest) (some (BitVec.ofNat 64 (2 ^ 32 - 1))) rest := by
  have hrun := uvlcRun_yields_of_lt rest hfuel
  rw [Nat.min_eq_right hk] at hrun
  exact hrun.bind (.ite_pos (Nat.le_refl 32) (ret_yields _ _))

theorem bodyUvlc_runsOut_suffix (hk : k ≤ 31) (hrest : rest.length < k) :
    RunsOut bodyUvlc (List.replicate k false ++ true :: rest) := by
  have hrun := uvlcRun_yields_of_lt (k := k) rest (by omega)
  rw [Nat.min_eq_left (by omega)] at hrun
  exact hrun.bind_runsOut (.ite_neg (by omega) (take_runsOut hrest).bind)

end

/-- No window holds more bits than the run has fuel (assumption 18). -/
theorem State.Inv.unread_length_lt {s : State} (hs : s.Inv) : s.unread.length < 2 ^ 36 := by
  obtain ⟨⟨h32, -⟩, -⟩ := hs
  have hlen := s.sessLen.isLt
  rw [State.unread_length, State.unfetched]
  omega

/-- Settles O23: the run by induction on its zeros, then the suffix as one `take`. -/
theorem uvlcDecodesRunAndSuffix : Obligations.UvlcDecodesRunAndSuffix := by
  intro s hs
  have haff := affords_unfetched .uvlc hs
  refine ⟨fun hr k rest => ⟨fun hu hk hrest => ?_, fun hu hk => ?_, fun hu hk hrest => ?_, fun hu => ?_⟩,
    decode_argOf_append .uvlc (lo := 3) rfl, sourceErrFails .uvlc hs, badWordsFail fun a ha => ?_⟩
  · obtain ⟨t, ht⟩ := exec_delivers (i := .uvlc) rfl rfl (hu ▸ bodyUvlc_yields hk hrest) hr haff
    exact ⟨t, ht.next, ht.succeeded, ht.unread, ht.pos nofun hs (n := 2 * k + 1) (by simp [hu]; omega),
      ht.lazy nofun hs⟩
  · have hlen := hs.unread_length_lt
    have hk' : k + 1 + rest.length = s.unread.length := by simp [hu]; omega
    obtain ⟨t, ht⟩ := exec_delivers (i := .uvlc) rfl rfl (hu ▸ bodyUvlc_yields_sat hk (by omega)) hr haff
    exact ⟨t, ht.next, ht.succeeded, ht.unread, ht.pos nofun hs (n := k + 1) hk'.symm, ht.lazy nofun hs⟩
  · exact exec_runsOut (body := bodyUvlc) rfl rfl (hu ▸ bodyUvlc_runsOut_suffix hk hrest) hr haff
  · exact exec_runsOut (body := bodyUvlc) rfl rfl (hu ▸ (uvlcRun_runsOut _ 0 k).bind) hr haff
  · simp [LegalArg] at ha
    omega

/-! ### NS -/

/-- `w = floor(log2 n) + 1` is the number of binary digits of `n`. -/
theorem nsWidth_eq {n w : Nat} (hn : 1 ≤ n) (hw : 1 ≤ w) (hlo : 2 ^ (w - 1) ≤ n) (hhi : n < 2 ^ w) :
    nsWidth n = w := by
  have hlog : Nat.log2 n = w - 1 := (Nat.log2_eq_iff (by omega)).2 ⟨hlo, by rwa [Nat.sub_add_cancel hw]⟩
  rw [nsWidth, hlog, Nat.sub_add_cancel hw]

theorem ns_affords (n : BitVec 32) {s : State} (hs : s.Inv) : s.Affords (.ns n) 8 :=
  fun t ht => (sourceReadsAreBounded (.ns n) s.allAnswered t hs ht).2.2

section
variable {n : BitVec 32} {u : List Bool}

theorem bodyNs_yields_short (hu : nsWidth n.toNat - 1 ≤ u.length)
    (hv : bitsVal (u.take (nsWidth n.toNat - 1)) < nsShort n.toNat) :
    Yields (bodyNs n) u (some (BitVec.ofNat 64 (bitsVal (u.take (nsWidth n.toNat - 1)))))
      (u.drop (nsWidth n.toNat - 1)) := by
  have hw := nsWidth_le n
  exact (take_yields (by omega) hu).bind (.ite_pos hv (ret_yields _ _))

theorem bodyNs_yields_long {e : Bool} {rest : List Bool} (hu : nsWidth n.toNat - 1 ≤ u.length)
    (hrest : u.drop (nsWidth n.toNat - 1) = e :: rest)
    (hv : nsShort n.toNat ≤ bitsVal (u.take (nsWidth n.toNat - 1))) :
    Yields (bodyNs n) u
      (some (BitVec.ofNat 64 (2 * bitsVal (u.take (nsWidth n.toNat - 1)) - nsShort n.toNat + e.toNat))) rest := by
  have hw := nsWidth_le n
  exact (hrest ▸ take_yields (by omega) hu).bind
    (.ite_neg (Nat.not_lt.2 hv) ((take_one_yields e rest).bind (ret_yields _ _)))

theorem bodyNs_runsOut (h : u.length < nsWidth n.toNat - 1 ∨
    (u.length = nsWidth n.toNat - 1 ∧ nsShort n.toNat ≤ bitsVal (u.take (nsWidth n.toNat - 1)))) :
    RunsOut (bodyNs n) u := by
  have hw := nsWidth_le n
  rcases h with hlt | ⟨hlen, hv⟩
  · exact (take_runsOut hlt).bind
  · exact (take_yields (by omega) hlen.ge).bind_runsOut
      (.ite_neg (Nat.not_lt.2 hv) (take_runsOut (by rw [List.length_drop]; omega)).bind)

end

/-- Settles O27: by whether the first w − 1 bits are a short code. -/
theorem nsReadsASymbol : Obligations.NsReadsASymbol := by
  intro s hs
  refine ⟨fun n w hn hw hlo hhi hr => ?_, fun n => decode_argOf_append (.ns n) rfl, fun n => sourceErrFails (.ns n) hs,
    badWordsFail fun a ha => ?_⟩
  · have hl := (legalAlphabet_iff n).2 hn
    have haff := ns_affords n hs
    obtain rfl := nsWidth_eq hn hw hlo hhi
    refine ⟨fun hu hv => ?_, fun e hu he hv => ?_, fun h => exec_runsOut rfl hl (bodyNs_runsOut h) hr haff⟩
    · obtain ⟨t, ht⟩ := exec_delivers rfl hl (bodyNs_yields_short hu hv) hr haff
      exact ⟨t, ht.next, ht.succeeded, ht.unread, ht.pos_drop nofun hs hu, ht.lazy nofun hs⟩
    · obtain ⟨hlt, rfl⟩ := List.getElem?_eq_some_iff.1 he
      have hrest := List.drop_eq_getElem_cons hlt
      rw [Nat.sub_add_cancel hw] at hrest
      obtain ⟨t, ht⟩ := exec_delivers rfl hl (bodyNs_yields_long (by omega) hrest hv) hr haff
      exact ⟨t, ht.next, ht.succeeded, ht.unread, ht.pos_drop nofun hs hu, ht.lazy nofun hs⟩
  · simp [LegalArg] at ha
    omega

end Sys2Proof.Machine
end

section
/-! The byte reads: LE and LEB128 (41_cursor_reads.md R103 and R104). -/

namespace Sys2Proof.Machine

/-! ### Bytes of a bit string -/

theorem streamByte_drop (u : List Bool) (o i : Nat) : streamByte (u.drop (8 * o)) i = streamByte u (o + i) := by
  rw [streamByte, streamByte, List.drop_drop, Nat.mul_add]

theorem streamByte_drop_one (u : List Bool) (i : Nat) : streamByte (u.drop 8) i = streamByte u (i + 1) := by
  rw [Nat.add_comm]
  exact streamByte_drop u 1 i

theorem drop_byte_succ (u : List Bool) (n : Nat) : u.drop (8 * (n + 1)) = (u.drop 8).drop (8 * n) := by
  rw [List.drop_drop, Nat.mul_add, Nat.add_comm]

/-- The digits `d` of weights `2^(w·i)`, `2^(w·(i+1))`, …, `n` of them. -/
def digitSum (d : Nat → Nat) (w i n : Nat) : Nat := ((List.range n).map fun j => d j * 2 ^ (w * (i + j))).sum

theorem digitSum_succ (d : Nat → Nat) (w i n : Nat) :
    digitSum d w i (n + 1) = d 0 <<< (w * i) + digitSum (fun j => d (j + 1)) w (i + 1) n := by
  rw [digitSum, List.sum_range_succ', digitSum, Nat.shiftLeft_eq]
  simp only [Nat.add_zero, Nat.succ_eq_add_one, Nat.add_assoc, Nat.add_comm 1]

/-! ### LE -/

theorem leBytes_yields {m : Nat} (i v : Nat) {u : List Bool} (hu : 8 * m ≤ u.length) :
    Yields (leBytes m i v) u (v + digitSum (streamByte u) 8 i m) (u.drop (8 * m)) := by
  induction m generalizing i v u with
  | zero => exact .pure v u
  | succ m ih =>
    rw [digitSum_succ, ← Nat.add_assoc, drop_byte_succ]
    simp only [← streamByte_drop_one]
    exact (take_yields (by decide) (by omega)).bind (ih _ _ (by rw [List.length_drop]; omega))

theorem leBytes_runsOut {m : Nat} (i v : Nat) {u : List Bool} (hu : u.length < 8 * m) : RunsOut (leBytes m i v) u := by
  induction m generalizing i v u with
  | zero => omega
  | succ m ih =>
    rcases Nat.lt_or_ge u.length 8 with hlt | hge
    · exact (take_runsOut hlt).bind
    · exact (take_yields (by decide) hge).bind_runsOut (ih _ _ (by rw [List.length_drop]; omega))

theorem le_affords (n : BitVec 32) {s : State} (hs : s.Inv) : s.Affords (.le n) (n.toNat + 4) :=
  fun t ht => (sourceReadsAreBounded (.le n) s.allAnswered t hs ht).2.2

theorem bodyLe_yields {n : BitVec 32} {u : List Bool} (ha : u.length % 8 = 0) (hu : 8 * n.toNat ≤ u.length) :
    Yields (bodyLe n) u (some (BitVec.ofNat 64 (digitSum (streamByte u) 8 0 n.toNat))) (u.drop (8 * n.toNat)) := by
  have h := leBytes_yields 0 0 hu
  rw [Nat.zero_add] at h
  exact onByteBoundary_yields ha (h.bind (ret_yields _ _))

theorem State.Inv.unread_mod {s : State} (hs : s.Inv) (hpos : s.pos % 8 = 0) : s.unread.length % 8 = 0 :=
  s.aligned_iff_unread.1 (hs.aligned_iff.2 hpos)

/-- Settles O24: a `take` of 8 bits a byte, by induction on the bytes. -/
theorem leReadsLittleEndianBytes : Obligations.LeReadsLittleEndianBytes := by
  intro s hs
  refine ⟨fun n h1 h8 => ?_, fun n => decode_argOf_append (.le n) rfl, fun n => sourceErrFails (.le n) hs,
    badWordsFail fun a ha => ?_⟩
  · have hl := (legalBytes_iff n).2 ⟨h1, h8⟩
    have haff := le_affords n hs
    refine ⟨fun hpos hr hu => ?_, fun hpos hr hu =>
      exec_runsOut (body := bodyLe n) rfl hl (onByteBoundary_runsOut (hs.unread_mod hpos) (leBytes_runsOut _ _ hu).bind)
        hr haff, fun hpos => exec_misaligned rfl hl hs hpos⟩
    obtain ⟨t, ht⟩ := exec_delivers rfl hl (bodyLe_yields (hs.unread_mod hpos) hu) hr haff
    have hval := ht.succeeded
    simp only [digitSum, Nat.zero_add] at hval
    exact ⟨t, ht.next, hval, ht.unread, ht.pos_drop nofun hs hu, ht.lazy nofun hs⟩
  · simp [LegalArg] at ha
    omega

/-! ### LEB128 -/

/-- A leb128 of `n` bytes stands at the head of `u`, where at most `m` bytes are allowed. -/
def LebWithin (m : Nat) (u : List Bool) (n : Nat) : Prop :=
  1 ≤ n ∧ n ≤ m ∧ 8 * n ≤ u.length ∧ (∀ i, i < n - 1 → 128 ≤ streamByte u i) ∧ (streamByte u (n - 1) < 128 ∨ n = m)

/-- The leb128 at byte `o` of `u` is the one at the head of what follows. -/
theorem lebAt_iff {u : List Bool} {o n : Nat} (ho : 8 * o ≤ u.length) :
    LebAt u o n ↔ LebWithin 8 (u.drop (8 * o)) n := by
  unfold LebAt LebWithin
  simp only [streamByte_drop, List.length_drop]
  constructor
  · rintro ⟨h1, h8, hlen, hcont, hlast⟩
    exact ⟨h1, h8, by omega, hcont, by rwa [← Nat.add_sub_assoc h1]⟩
  · rintro ⟨h1, h8, hlen, hcont, hlast⟩
    exact ⟨h1, h8, by omega, hcont, by rwa [Nat.add_sub_assoc h1]⟩

/-- A last byte ends the leb128 at once. -/
theorem LebWithin.one {m : Nat} {u : List Bool} (hm : 1 ≤ m) (hu : 8 ≤ u.length) (h : streamByte u 0 < 128 ∨ m = 1) :
    LebWithin m u 1 :=
  ⟨Nat.le_refl 1, hm, hu, by simp, h.imp_right Eq.symm⟩

/-- A byte with the continuation bit goes before a leb128 of one byte less. -/
theorem lebWithin_succ_iff {m n : Nat} {u : List Bool} (hu : 8 ≤ u.length) (h : 128 ≤ streamByte u 0) :
    LebWithin (m + 1) u (n + 2) ↔ LebWithin m (u.drop 8) (n + 1) := by
  unfold LebWithin
  simp only [streamByte_drop_one, List.length_drop, Nat.add_sub_cancel]
  constructor
  · rintro ⟨-, hm, hlen, hcont, hlast⟩
    exact ⟨by omega, by omega, by omega, fun i hi => hcont (i + 1) (by omega), hlast.imp_right (by omega)⟩
  · rintro ⟨-, hm, hlen, hcont, hlast⟩
    refine ⟨by omega, by omega, by omega, fun i hi => ?_, hlast.imp_right (by omega)⟩
    cases i with
    | zero => exact h
    | succ i => exact hcont i (by omega)

/-- The value and the number of bytes that a leb128 of `n` bytes adds to `v` and `i`. -/
def lebResult (u : List Bool) (i v n : Nat) : Nat × Nat := (v + digitSum (fun j => streamByte u j % 128) 7 i n, i + n)

theorem lebResult_one (u : List Bool) (i v : Nat) :
    lebResult u i v 1 = (v + (streamByte u 0 % 128) <<< (7 * i), i + 1) := by
  simp [lebResult, digitSum, Nat.shiftLeft_eq]

theorem lebResult_succ (u : List Bool) (i v n : Nat) :
    lebResult u i v (n + 1) = lebResult (u.drop 8) (i + 1) (v + (streamByte u 0 % 128) <<< (7 * i)) n := by
  simp only [lebResult, digitSum_succ, streamByte_drop_one, Nat.add_assoc, Nat.add_comm 1 n]

theorem lebBytes_yields {m n : Nat} (i v : Nat) {u : List Bool} (h : LebWithin m u n) :
    Yields (lebBytes m i v) u (lebResult u i v n) (u.drop (8 * n)) := by
  induction m generalizing i v u n with
  | zero =>
    obtain ⟨h1, hm, -⟩ := h
    omega
  | succ m ih =>
    obtain ⟨h1, hm, hlen, hcont, hlast⟩ := id h
    have hu : 8 ≤ u.length := by omega
    refine (take_yields (by decide) hu).bind ?_
    by_cases hb : streamByte u 0 < 128
    · have hn : n = 1 := by
        by_contra hne
        have := hcont 0 (by omega)
        omega
      rw [hn, lebResult_one]
      exact .ite_pos hb (.pure _ _)
    · refine .ite_neg hb ?_
      match n with
      | 1 =>
        obtain rfl : m = 0 := (Nat.succ.inj (hlast.resolve_left hb)).symm
        rw [lebResult_one]
        exact .pure _ _
      | n + 2 =>
        rw [lebResult_succ, drop_byte_succ]
        exact ih _ _ ((lebWithin_succ_iff hu (by omega)).1 h)

theorem lebBytes_runsOut {m : Nat} (hm : 1 ≤ m) (i v : Nat) {u : List Bool} (h : ∀ n, ¬ LebWithin m u n) :
    RunsOut (lebBytes m i v) u := by
  induction m generalizing i v u with
  | zero => omega
  | succ m ih =>
    rcases Nat.lt_or_ge u.length 8 with hlt | hu
    · exact (take_runsOut hlt).bind
    · have hone : ¬ (streamByte u 0 < 128 ∨ m + 1 = 1) := fun hlast => h 1 (.one hm hu hlast)
      refine (take_yields (by decide) hu).bind_runsOut (.ite_neg (fun hb => hone (.inl hb))
        (ih (by omega) _ _ fun n hn => ?_))
      obtain ⟨n, rfl⟩ := Nat.exists_eq_add_of_le' hn.1
      exact h (n + 2) ((lebWithin_succ_iff hu (by omega)).2 hn)

theorem lebResult_value (u : List Bool) (n : Nat) : (lebResult u 0 0 n).1 = lebValue u 0 n := by
  simp only [lebResult, digitSum, lebValue, Nat.zero_add]

theorem leb128_affords {s : State} (hs : s.Inv) : s.Affords .leb128 12 :=
  fun t ht => (sourceReadsAreBounded .leb128 s.allAnswered t hs ht).2.2

theorem bodyLeb128_yields {u : List Bool} {n : Nat} (ha : u.length % 8 = 0) (h : LebAt u 0 n) :
    Yields bodyLeb128 u (some (BitVec.ofNat 64 (lebValue u 0 n))) (u.drop (8 * n)) := by
  rw [← lebResult_value]
  exact onByteBoundary_yields ha
    ((lebBytes_yields 0 0 ((lebAt_iff (Nat.zero_le _)).1 h)).bind (ret_yields _ _))

theorem bodyLeb128_runsOut {u : List Bool} (ha : u.length % 8 = 0) (h : ∀ n, ¬ LebAt u 0 n) : RunsOut bodyLeb128 u :=
  onByteBoundary_runsOut ha
    (lebBytes_runsOut (by decide) 0 0 fun n hn => h n ((lebAt_iff (Nat.zero_le _)).2 hn)).bind

/-- Settles O25: by induction on the bytes allowed, and whether the first of them is the last. -/
theorem leb128ReadsSevenBitGroups : Obligations.Leb128ReadsSevenBitGroups := by
  intro s hs
  have haff := leb128_affords hs
  refine ⟨fun hpos hr => ⟨fun n hn => ?_, fun hn =>
      exec_runsOut (i := .leb128) rfl rfl (bodyLeb128_runsOut (hs.unread_mod hpos) hn) hr haff⟩,
    fun hpos => exec_misaligned (i := .leb128) (legal := true) rfl rfl hs hpos,
    decode_argOf_append .leb128 (lo := 5) rfl, sourceErrFails .leb128 hs, badWordsFail fun a ha => ?_⟩
  · obtain ⟨t, ht⟩ := exec_delivers (i := .leb128) rfl rfl (bodyLeb128_yields (hs.unread_mod hpos) hn) hr haff
    obtain ⟨-, -, hlen, -⟩ := hn
    rw [Nat.zero_add] at hlen
    exact ⟨t, ht.next, ht.succeeded, ht.unread, ht.pos_drop nofun hs hlen, ht.lazy nofun hs⟩
  · simp [LegalArg] at ha
    omega

end Sys2Proof.Machine
end

section
/-! Laws of the reads: the split of a field, and a read past the end again (41_cursor_reads.md R107 and R108). -/

namespace Sys2Proof.Machine

/-! ### One read after another -/

theorem Delivers.fetched {i : Instr} {s t : State} {w : Word} {r : List Bool} (h : Delivers i s w r t) (hi : i ≠ .bind)
    (hs : s.Inv) : Fetched s t := by
  have hend := exec_ends h.next
  exact ⟨(hend.inv hs).windowOk.1, (hend.session_eq hi).2.1, (exec_fetches hs.windowOk.1 hi h.next).2 h.err⟩

/-- A command that ends otherwise than in SourceError had its reads answered, and ends with the same error, if any, when
every read is. -/
theorem exec_answered {i : Instr} {s t : State} (hs : s.InRange) (h : exec i s = .next t) (he : t.err ≠ .sourceError) :
    ∃ t' n, exec i s.allAnswered = .next t' ∧ t'.err = t.err ∧ Answered s t n := by
  obtain ⟨t', ht'⟩ := exec_completes i (s := s.allAnswered) fun a ha => by
    rw [List.eq_of_mem_replicate ha]
    decide
  refine ⟨t', ?_⟩
  cases exec_follows hs ht' with
  | answered n hn ha hrun =>
    cases h.symm.trans hrun
    exact ⟨n, ht', rfl, hn, rfl, ha⟩
  | err j ho hj hrun =>
    cases h.symm.trans hrun
    exact absurd rfl he
  | never j ho hj hrun => cases h.symm.trans hrun

/-- After a read of at most `j` source bytes, a source that answers `j + k` still answers `k`. -/
theorem Delivers.ready {i : Instr} {s t : State} {w : Word} {r : List Bool} {j k : Nat} (h : Delivers i s w r t)
    (hi : i ≠ .bind) (hs : s.Ready (j + k)) (hj : s.readsTo t ≤ j) : t.Ready k := by
  obtain ⟨hinv, hu, hans⟩ := hs
  have hend := exec_ends h.next
  have hf := h.fetched hi hinv
  obtain ⟨-, n, -, -, ha⟩ := exec_answered hinv.windowOk.1 h.next (by rw [h.err]; decide)
  obtain ⟨hbase, -, htaint⟩ := hend.session_eq hi
  have hn : n ≤ j := by rwa [State.readsTo, ha.draws, Nat.add_sub_cancel_left] at hj
  have hdraws := ha.draws
  have hfetch := hf.draws
  exact ⟨hend.inv hinv, hu.of_foff_le htaint hbase (by omega),
    ha.sourceAnswers hf hinv.windowOk.1 fun i hi => hans i (by omega)⟩

/-- A field of at most 32 bits fits RESULT. -/
theorem ofNat_bitsVal_take_toNat {n : Nat} (hn : n ≤ 32) (u : List Bool) :
    (BitVec.ofNat 64 (bitsVal (u.take n))).toNat = bitsVal (u.take n) := by
  have hpow : 2 ^ n ≤ 2 ^ 32 := Nat.pow_le_pow_right (by decide) hn
  have hlt := bitsVal_take_lt u n
  exact Nat.mod_eq_of_lt (by omega)

/-- Settles O41: the three reads by what each takes from the unread sequence. -/
theorem fieldReadsSplit : Obligations.FieldReadsSplit := by
  intro a b s ha hb hab hr hu
  have hsum : (a + b).toNat = a.toNat + b.toNat := by rw [BitVec.toNat_add]; omega
  obtain ⟨t1, h1⟩ := exec_f_delivers ha (by omega) (hr.mono (by omega)) (by omega)
  have hr1 : t1.Ready 4 :=
    h1.ready (j := 4) nofun hr (sourceReadsAreBounded (.f a) s t1 hr.1 h1.next).2.2
  have hu1 := h1.unread
  obtain ⟨t2, h2⟩ := exec_f_delivers hb (by omega) hr1 (by rw [hu1, List.length_drop]; omega)
  obtain ⟨t, h⟩ := exec_f_delivers (n := a + b) (by omega) (by omega) (hr.mono (by omega)) (by omega)
  refine ⟨t1, t2, t, h1.next, h2.next, h.next, h1.err, h2.err, h.err, ?_, ?_⟩
  · have hlen : ((s.unread.drop a.toNat).take b.toNat).length = b.toNat :=
      List.length_take_of_le (by rw [List.length_drop]; omega)
    rw [h1.result, h2.result, h.result, hu1, hsum, ofNat_bitsVal_take_toNat (by omega),
      ofNat_bitsVal_take_toNat (by omega), ofNat_bitsVal_take_toNat (by omega), List.take_add, bitsVal_append, hlen]
  · rw [h2.unread, h.unread, hu1, List.drop_drop, hsum]

/-! ### Two states that a command does not tell apart -/

/-- What reading rests on: a tidy cursor on a window inside the source space, undisturbed, and a source that answers to
the window's end. -/
structure State.Fed (s : State) : Prop where
  tidy : s.Tidy
  window : s.WindowOk
  undisturbed : s.Undisturbed
  answers : s.SourceAnswers s.unfetched

theorem State.Live.fed {s : State} (h : s.Live) : s.Fed := by
  obtain ⟨hinv, hu, hans⟩ := h
  exact ⟨(State.inv_iff.1 hinv).1, hinv.windowOk, hu, hans⟩

theorem State.Fed.drop {s : State} (h : s.Fed) {n : Nat} (hn : n ≤ s.cur.valid.toNat) :
    (s.setCur (s.cur.drop n)).Fed := by
  obtain ⟨⟨hok, hfsm⟩, hw, hu, hans⟩ := h
  exact ⟨⟨hok.drop hn, hfsm⟩, hw, hu, hans⟩

theorem State.Fed.writeObu {s : State} (h : s.Fed) (o : ObuRegs) (w : Bool) : (s.writeObu o w).Fed :=
  ⟨h.tidy, h.window, h.undisturbed, h.answers⟩

theorem State.Fed.checkpoint {s : State} (h : s.Fed) : s.checkpoint.Fed :=
  ⟨h.tidy, h.window, h.undisturbed, h.answers⟩

/-- The refill of a fed state: it loads the next bytes of the window and leaves the state fed. -/
theorem State.Fed.refill {s : State} (h : s.Fed) :
    ∃ t, Machine.refill s = .ok () t ∧ Filled s 0 4 (min 4 s.unfetched) t ∧ t.Fed := by
  have hin := h.window.1
  obtain ⟨t, hr, ht⟩ := refill_of_answers hin fun i hi => h.answers i (by omega)
  have hf := ht.fetched hin
  have htidy := refill_tidy h.tidy
  rw [hr] at htidy
  have hbase : t.sessBase = s.sessBase := by rw [ht.frame]
  have htaint : t.tainted = s.tainted := by rw [ht.frame]
  have ha : Answered s t (min 4 s.unfetched) :=
    ⟨by rw [ht.frame], by rw [ht.frame], fun k hk => h.answers k (by omega)⟩
  have hfoff := ht.foff
  refine ⟨t, hr, ht, htidy, ⟨hf.inRange, ?_⟩, h.undisturbed.of_foff_le htaint hbase (by omega),
    ha.sourceAnswers hf hin fun i hi => h.answers i (by omega)⟩
  rw [hbase, hf.sessLen]
  exact h.window.2

/-- A cursor is determined by its valid bits, when the bits below them are blank. -/
theorem Cursor.eq_of_bits {c d : Cursor} {v : Nat} (hc : c.valid.toNat = v) (hd : d.valid.toNat = v)
    (hexh : c.exh = d.exh) (hfoff : c.foff = d.foff) (hbits : c.bits = d.bits) (hcb : c.BlankFrom v)
    (hdb : d.BlankFrom v) : c = d := by
  have hvalid : c.valid = d.valid := BitVec.eq_of_toNat_eq (hc.trans hd.symm)
  have hacc : c.acc = d.acc := by
    refine BitVec.eq_of_getMsbD_eq fun i _ => ?_
    rcases Nat.lt_or_ge i v with hlt | hge
    · have h := congrArg (·[i]?) hbits
      simpa [Cursor.bits, hc, hd, hlt] using h
    · rw [hcb i hge, hdb i hge]
  cases c
  cases d
  cases hacc
  cases hvalid
  cases hexh
  cases hfoff
  rfl

/-- `t` differs from `s` in nothing that a command looks at, beside the answers to come, and both are fed. -/
structure Alike (s t : State) : Prop where
  left : s.Fed
  right : t.Fed
  cur : t.cur = s.cur
  sessBase : t.sessBase = s.sessBase
  sessLen : t.sessLen = s.sessLen
  strictS : t.strictS = s.strictS
  mem : t.mem = s.mem

/-- Two runs that end the same way: with one value in states alike, or with one error. -/
inductive SameEnd {α : Type} : Res α → Res α → Prop where
  | ok (v : α) {s t : State} (h : Alike s t) : SameEnd (.ok v s) (.ok v t)
  | raise (e : ErrCode) (s t : State) : SameEnd (.raise e s) (.raise e t)

theorem SameEnd.bind {α β : Type} {r r' : Res α} {k : α → State → Res β} (h : SameEnd r r')
    (hk : ∀ v s t, Alike s t → SameEnd (k v s) (k v t)) : SameEnd (r.bind k) (r'.bind k) := by
  cases h with
  | ok v h => exact hk v _ _ h
  | raise e s t => exact .raise e s t

section
variable {s t : State}

theorem Alike.unfetched (h : Alike s t) : t.unfetched = s.unfetched := by
  rw [State.unfetched, State.unfetched, h.cur, h.sessLen]

theorem Alike.drop (h : Alike s t) {n : Nat} (hn : n ≤ s.cur.valid.toNat) :
    Alike (s.setCur (s.cur.drop n)) (t.setCur (t.cur.drop n)) :=
  ⟨h.left.drop hn, h.right.drop (h.cur ▸ hn), congrArg (·.drop n) h.cur, h.sessBase, h.sessLen, h.strictS, h.mem⟩

theorem Alike.writeObu (h : Alike s t) (o : ObuRegs) (w : Bool) : Alike (s.writeObu o w) (t.writeObu o w) :=
  ⟨h.left.writeObu o w, h.right.writeObu o w, h.cur, h.sessBase, h.sessLen, h.strictS, h.mem⟩

theorem Alike.checkpoint (h : Alike s t) : Alike s.checkpoint t.checkpoint :=
  ⟨h.left.checkpoint, h.right.checkpoint, h.cur, h.sessBase, h.sessLen, h.strictS, h.mem⟩

theorem Alike.refill (h : Alike s t) : SameEnd (Machine.refill s) (Machine.refill t) := by
  obtain ⟨u, hr, hu, hfed⟩ := h.left.refill
  obtain ⟨u', hr', hu', hfed'⟩ := h.right.refill
  obtain ⟨hbits, hblank⟩ := refill_bits h.left.window h.left.undisturbed hr
  obtain ⟨hbits', hblank'⟩ := refill_bits h.right.window h.right.undisturbed hr'
  have hfoff := hu.foff
  have hfoff' := hu'.foff
  have hvalid := hu.valid
  have hvalid' := hu'.valid
  have hexh' := hu'.exh
  rw [h.unfetched, h.cur] at *
  rw [h.sessBase, h.mem] at hbits'
  rw [Nat.zero_add] at hvalid hvalid'
  have hcur : u'.cur = u.cur := Cursor.eq_of_bits hvalid' hvalid (hexh'.trans hu.exh.symm)
    (BitVec.eq_of_toNat_eq (hfoff'.trans hfoff.symm)) (hbits'.trans hbits.symm) hblank' hblank
  rw [hr, hr']
  refine .ok () ⟨hfed, hfed', hcur, ?_, ?_, ?_, ?_⟩ <;> rw [hu.frame, hu'.frame]
  · exact h.sessBase
  · exact h.sessLen
  · exact h.strictS
  · exact h.mem

theorem Alike.takeRest (h : Alike s t) (hi need : Nat) :
    SameEnd (Machine.takeRest hi need s) (Machine.takeRest hi need t) := by
  rcases Nat.lt_or_ge s.cur.valid.toNat need with hlt | hle
  · rw [takeRest_of_lt hlt, takeRest_of_lt (h.cur ▸ hlt)]
    exact .raise _ _ _
  · rw [takeRest_of_le hle, takeRest_of_le (h.cur ▸ hle), show t.cur.top need = _ from congrArg (·.top need) h.cur]
    exact .ok _ (h.drop hle)

theorem Alike.take (h : Alike s t) (n : Nat) : SameEnd (Machine.take n s) (Machine.take n t) := by
  have hcur := h.cur
  by_cases hv : n ≤ s.cur.valid.toNat
  · rw [take_of_held hv, take_of_held (hcur ▸ hv), show t.cur.top n = _ from congrArg (·.top n) hcur]
    exact .ok _ (h.drop hv)
  · rw [Nat.not_le] at hv
    cases he : s.cur.exh
    · rw [take_of_refill hv he, take_of_refill (hcur ▸ hv) (hcur ▸ he), hcur]
      exact h.refill.bind fun _ _ _ hu => hu.takeRest _ _
    · rw [take_of_exhausted hv he, take_of_exhausted (hcur ▸ hv) (hcur ▸ he)]
      exact .raise _ _ _

end

theorem Parser.alike {α : Type} {p : State → Res α} (hp : Parser p) {s t : State} (h : Alike s t) :
    SameEnd (p s) (p t) := by
  induction hp generalizing s t with
  | pure v => exact .ok v h
  | raise e he => exact .raise e s t
  | take n hn => exact h.take n
  | writeObu v o w => exact .ok v (h.writeObu o w)
  | @look _ p hp ih =>
    show SameEnd (p s.cur s.strictS s.sessLen s) (p t.cur t.strictS t.sessLen t)
    rw [h.cur, h.strictS, h.sessLen]
    exact ih _ _ _ h
  | bind hp hk ihp ihk => exact (ihp h).bind fun v _ _ => ihk v

/-- A command that runs out of bits does so in every state alike. -/
theorem exec_endOfStream_alike {i : Instr} {s s' t : State} (ha : Alike s s') (h : exec i s = .next t)
    (he : t.err = .endOfStream) : ∃ u, exec i s' = .next u ∧ u.err = .endOfStream := by
  have hi : i ≠ .bind := by
    rintro rfl
    rw [exec_bind_eq] at h
    cases h
    split at he <;> cases he
  obtain ⟨legal, body, hexec, hbody⟩ := exec_eq_command hi
  rw [hexec] at h ⊢
  rcases command_eq_next.1 h with ⟨-, rfl⟩ | ⟨hl, ⟨v, u, -, rfl⟩ | ⟨u, -, rfl⟩ | ⟨e, u, hu, rfl⟩⟩
  · cases he
  · cases he
  · cases he
  · obtain rfl : e = .endOfStream := he
    have hsame := (hbody hl).alike ha.checkpoint
    rw [hu] at hsame
    generalize hr : body s'.checkpoint = r at hsame
    cases hsame
    exact ⟨_, command_eq_next.2 (.inr ⟨hl, .inr (.inr ⟨_, _, hr, rfl⟩)⟩), rfl⟩

/-- Settles O40: the failed command left the cursor and the session as they were, so that the state it left is alike. -/
theorem endOfStreamRepeats : Obligations.EndOfStreamRepeats := by
  intro i s t hs hu h he hans
  have hend := exec_ends h
  obtain ⟨⟨-, -, -, hcur, -⟩, -, ⟨hbase, hlen, -, hstrict, -, -, -, -, -, -, htaint, -⟩, -⟩ :=
    failedCommandRollsBack i s t h (by rw [he]; decide)
  have hready : t.Ready t.unfetched := ⟨hend.inv hs, hu.of_foff_le htaint hbase (by rw [hcur]), hans⟩
  obtain ⟨t', -, ht', he', -⟩ := exec_answered hs.windowOk.1 h (by rw [he]; decide)
  have halike : Alike s.allAnswered t.allAnswered :=
    ⟨(State.Ready.allAnswered (k := 0) ⟨hs, hu, fun j hj => by omega⟩).fed, hready.allAnswered.fed, hcur, hbase, hlen,
      hstrict, congrArg Unseen.mem hend.unseen_eq⟩
  obtain ⟨u, hrun, herr⟩ := exec_endOfStream_alike halike ht' (he'.trans he)
  have hrun' := exec_of_ready hready (affords_unfetched i hready.1) hrun
  exact ⟨_, hrun', exec_failed hrun' herr (by decide)⟩

end Sys2Proof.Machine
end

section
/-! The range of each command's result, in every state (41_cursor_reads.md R101, R103 and R109 to R112). -/

namespace Sys2Proof.Machine

/-- A body that returns a value with `P`, or raises one of the five errors. -/
def Res.Returns (P : Word → Prop) (r : Res (Option Word)) : Prop :=
  r.Ends (fun v _ => ∃ w, v = some w ∧ P w) fun e _ => e ≠ .none

theorem command_returns {legal : Bool} {body : State → Res (Option Word)} {s t : State} {P : Word → Prop}
    (hbody : legal = true → (body s.checkpoint).Returns P) (h : command legal body s = .next t) (he : t.err = .none) :
    P t.result := by
  rcases command_eq_next.1 h with ⟨-, rfl⟩ | ⟨hl, ⟨v, u, hu, rfl⟩ | ⟨u, hu, rfl⟩ | ⟨e, u, hu, rfl⟩⟩
  · cases he
  all_goals
    have hret := hbody hl
    rw [hu] at hret
  · obtain ⟨w, hw, hP⟩ := hret
    cases hw
    exact hP
  · obtain ⟨w, hw, -⟩ := hret
    cases hw
  · exact absurd he hret

/-- What is read by read parts and then returned. -/
theorem Res.Returns.bind {α : Type} {P : Word → Prop} {Q : α → State → Prop} {s : State} {r : Res α}
    {k : α → State → Res (Option Word)} (h : r.Ends Q (ReadFails s)) (hk : ∀ v t, Q v t → (k v t).Returns P) :
    (r.bind k).Returns P :=
  (h.mono (fun _ _ h => h) fun _ _ h => h.2.ne_none).bind hk

/-- 64 bits keep a value or lower it. -/
theorem ofNat_toNat_le (v : Nat) : (BitVec.ofNat 64 v).toNat ≤ v := by
  rw [BitVec.toNat_ofNat]
  exact Nat.mod_le _ _

theorem ret_returns_le {v m : Nat} (h : v ≤ m) (s : State) : (ret v s).Returns fun w => w.toNat ≤ m :=
  ⟨_, rfl, (ofNat_toNat_le v).trans h⟩

theorem ret_returns_lt {v m : Nat} (h : v < m) (s : State) : (ret v s).Returns fun w => w.toNat < m :=
  ⟨_, rfl, (ofNat_toNat_le v).trans_lt h⟩

theorem onByteBoundary_returns {P : Word → Prop} {body : State → Res (Option Word)} {s : State}
    (h : (body s).Returns P) : (onByteBoundary body s).Returns P := by
  unfold onByteBoundary
  split
  · exact h
  · exact fun he => nomatch he

theorem bodyF_range {n : BitVec 32} (hl : legalBits n = true) (s : State) :
    (bodyF n s).Returns fun w => w.toNat < 2 ^ n.toNat :=
  .bind (take_ends ((legalBits_iff n).1 hl).2 s) fun _ _ ⟨hv, _⟩ => ret_returns_lt hv _

theorem bodyF1_range (s : State) : (bodyF1 s).Returns fun w => w.toNat ≤ 1 :=
  .bind (take_ends (n := 1) (by decide) s) fun _ _ ⟨hv, _⟩ => ret_returns_le (Nat.le_of_lt_succ hv) _

theorem bodyUvlc_range (s : State) : (bodyUvlc s).Returns fun w => w.toNat ≤ 2 ^ 32 - 1 := by
  refine .bind (uvlcRun_ends _ 0 s (by decide)) fun k t _ => ?_
  unfold uvlcTail
  split
  next => exact ret_returns_le (Nat.le_refl _) t
  next hk =>
    refine .bind (take_ends (by omega) t) fun v u ⟨hv, _⟩ => ret_returns_le ?_ u
    have hpow : 2 ^ k ≤ 2 ^ 31 := Nat.pow_le_pow_right (by decide) (by omega)
    omega

theorem bodyLe_range (n : BitVec 32) (s : State) : (bodyLe n s).Returns fun w => w.toNat < 2 ^ (8 * n.toNat) :=
  onByteBoundary_returns (.bind (leBytes_ends n.toNat 0 0 s (by decide)) fun v t ⟨hv, _⟩ =>
    ret_returns_lt (by rwa [Nat.zero_add] at hv) t)

theorem bodyLeb128_range (s : State) : (bodyLeb128 s).Returns fun w => w.toNat < 2 ^ 56 :=
  onByteBoundary_returns (.bind (lebBytes_ends 8 0 0 s (by decide)) fun v t ⟨hv, _⟩ => ret_returns_lt hv t)

theorem bodySu_range {n : BitVec 32} (hl : legalBits n = true) (s : State) :
    (bodySu n s).Returns fun w => -(2 ^ (n.toNat - 1) : Int) ≤ w.toInt ∧ w.toInt ≤ 2 ^ (n.toNat - 1) - 1 := by
  obtain ⟨h1, h32⟩ := (legalBits_iff n).1 hl
  refine .bind (take_ends h32 s) fun v t ⟨hv, _⟩ => ⟨_, rfl, ?_⟩
  have hb := suValue_bounds h1 hv
  have hpow : (2 : Int) ^ (n.toNat - 1) ≤ 2 ^ 31 := pow_le_pow_right₀ (by decide) (by omega)
  simpa only [BitVec.toInt_ofInt_eq_self (w := 64) (by decide) (n := suValue n.toNat v) (by omega) (by omega)] using hb

/-- The short codes are at most the symbols, and each long code names one (41_cursor_reads.md R106). -/
theorem two_pow_nsWidth {n : Nat} (hn : 1 ≤ n) :
    nsShort n + n = 2 * 2 ^ (nsWidth n - 1) ∧ 2 ^ (nsWidth n - 1) ≤ n := by
  have hlo : 2 ^ Nat.log2 n ≤ n := Nat.log2_self_le (by omega)
  have hhi : n < 2 ^ (Nat.log2 n + 1) := Nat.lt_log2_self
  rw [nsShort, nsWidth, Nat.add_sub_cancel, ← Nat.pow_succ']
  exact ⟨by omega, hlo⟩

theorem bodyNs_range {n : BitVec 32} (hl : legalAlphabet n = true) (s : State) :
    (bodyNs n s).Returns fun w => w.toNat < n.toNat := by
  obtain ⟨hsum, hlo⟩ := two_pow_nsWidth ((legalAlphabet_iff n).1 hl)
  have hw := nsWidth_le n
  refine .bind (take_ends (by omega) s) fun v t ⟨hv, _⟩ => ?_
  split
  next hshort => exact ret_returns_lt (by omega) t
  next hlong =>
    refine .bind (take_ends (n := 1) (by decide) t) fun e u ⟨he, _⟩ => ret_returns_lt ?_ u
    omega

/-! ### OBU_HDR -/

theorem Res.ends_true {α : Type} (r : Res α) : r.Ends (fun _ _ => True) fun _ _ => True := by
  cases r <;> trivial

/-- OBU_HDR counts the header byte in HDR_LEN (42_obu_framer.md R134). -/
theorem frameObu_hdrLen {h : HeaderByte} {x : ExtByte} {sz : Nat × Nat} (hsz : sz.2 ≤ 8) (s : State) :
    (frameObu h x sz s).Ends (fun _ t => 1 ≤ t.obu.info.hdrLen.toNat) fun _ _ => True := by
  have hlen : 1 ≤ (BitVec.ofNat 4 (1 + h.ext.toNat + sz.2)).toNat := by
    have hext := Bool.toNat_le h.ext
    rw [BitVec.toNat_ofNat]
    omega
  exact (Res.ends_true (payloadLength h.hasSize sz.1 _ s)).bind fun _ _ _ => hlen

theorem bodyObuHdr_hdrLen (s : State) :
    (bodyObuHdr s).Ends (fun _ t => 1 ≤ t.obu.info.hdrLen.toNat) fun _ _ => True := by
  unfold bodyObuHdr onByteBoundary
  split
  next =>
    refine (Res.ends_true (readHeader s)).bind fun h t _ => (Res.ends_true (readExt h.ext t)).bind fun x u _ => ?_
    exact ((readSize_ends h.hasSize u).mono (fun _ _ h => h) fun _ _ _ => trivial).bind
      fun sz w ⟨_, hsz, _⟩ => frameObu_hdrLen hsz w
  next => trivial

theorem execObuHdr_range {s t : State} (h : execObuHdr s = .next t) (he : t.err = .none) :
    t.obu.info.hdrLen.toNat ≤ 10 ∧ 1 ≤ t.obu.info.hdrLen.toNat ∧ t.obu.size.toNat < 2 ^ 56 := by
  have hends := bodyObuHdr_ends s.checkpoint
  have hlen := bodyObuHdr_hdrLen s.checkpoint
  have hrep := bodyObuHdr_reports s.checkpoint
  rcases command_eq_next.1 h with ⟨hl, -⟩ | ⟨-, ⟨v, u, hu, rfl⟩ | ⟨u, hu, rfl⟩ | ⟨e, u, hu, rfl⟩⟩
  · cases hl
  all_goals rw [hu] at hends hlen hrep
  · obtain ⟨-, hsize, h10, -⟩ := hends
    exact ⟨h10, hlen, hsize⟩
  · exact absurd rfl hrep
  · exact absurd he hrep

/-- Settles O44: each body's value is bounded by the reads it is made of. -/
theorem readResultsStayInRange : Obligations.ReadResultsStayInRange := by
  intro i s t h he
  cases i with
  | f n => exact command_returns (fun hl => bodyF_range hl _) h he
  | f1 => exact command_returns (legal := true) (fun _ => bodyF1_range _) h he
  | uvlc => exact command_returns (legal := true) (fun _ => bodyUvlc_range _) h he
  | le n => exact command_returns (fun _ => bodyLe_range n _) h he
  | leb128 => exact command_returns (legal := true) (fun _ => bodyLeb128_range _) h he
  | su n => exact command_returns (fun hl => bodySu_range hl _) h he
  | ns n => exact command_returns (fun hl => bodyNs_range hl _) h he
  | obuHdr => exact execObuHdr_range h he
  | bind => rw [exec_bind_success h he]; rfl

end Sys2Proof.Machine
end

section
/-! The OBU header framer (42_obu_framer.md R130 to R135): the header parse as a parser of the unread bit sequence under
the policy that was sampled at issue, and what OBU_HDR reports and leaves alone. -/

namespace Sys2Proof.Machine

/-! ### Parsers that follow a start -/

/-- From `s`, reading the stream has led to the live state `t`, in which `u` is unread. -/
structure Reading (s : State) (u : List Bool) (t : State) : Prop where
  live : t.Live
  unread : t.unread = u
  reads : Reads s t

/-- Wherever reading from `s` has led with `u` unread, the answer of `p` meets `Q`. -/
def Answers {α : Type} (s : State) (p : State → Res α) (u : List Bool) (Q : Res α → Prop) : Prop :=
  ∀ t, Reading s u t → Q (p t)

/-- The answer is the value `v`, with `r` left unread and nothing but reading done since `s`. -/
def Parsed {α : Type} (s : State) (v : α) (r : List Bool) (a : Res α) : Prop := ∃ t, a = .ok v t ∧ Reading s r t

/-- The answer is the error `e`. -/
def Raised {α : Type} (e : ErrCode) (a : Res α) : Prop := ∃ t, a = .raise e t

section
variable {α β : Type} {s : State} {p : State → Res α} {k : α → State → Res β} {u r : List Bool} {v : α} {e : ErrCode}

theorem Answers.pure (v : α) (u : List Bool) : Answers s (fun t => .ok v t) u (Parsed s v u) :=
  fun t ht => ⟨t, rfl, ht⟩

theorem Answers.bind {Q : Res β → Prop} (hp : Answers s p u (Parsed s v r)) (hk : Answers s (k v) r Q) :
    Answers s (fun t => (p t).bind k) u Q := by
  intro t ht
  obtain ⟨t', hv, ht'⟩ := hp t ht
  dsimp only
  rw [hv]
  exact hk t' ht'

theorem Answers.bind_raised (hp : Answers s p u (Raised e)) : Answers s (fun t => (p t).bind k) u (Raised e) := by
  intro t ht
  obtain ⟨t', he⟩ := hp t ht
  exact ⟨t', Res.bind_eq_raise.2 (.inl he)⟩

theorem Yields.answers (hy : Yields p u v r)
    (hr : ∀ t, (p t).Ends (fun _ t' => Reads t t') (ReadFails t)) : Answers s p u (Parsed s v r) := by
  intro t ht
  obtain ⟨t', hv, hlive, hrest⟩ := hy t ht.live ht.unread
  have hreads := hr t
  rw [hv] at hreads
  exact ⟨t', hv, hlive, hrest, ht.reads.trans hreads⟩

theorem RunsOut.answers (hp : RunsOut p u) : Answers s p u (Raised .endOfStream) :=
  fun t ht => hp t ht.live ht.unread

theorem onByteBoundary_answers {body : State → Res (Option Word)} {Q : Res (Option Word) → Prop}
    (ha : u.length % 8 = 0) (h : Answers s body u Q) : Answers s (onByteBoundary body) u Q := by
  intro t ht
  rw [onByteBoundary, if_pos (t.aligned_iff_unread.2 (ht.unread ▸ ha))]
  exact h t ht

end

/-! ### The parts of the header parse -/

section
variable {s : State} {u : List Bool}

theorem takeByte_answers (hu : 8 ≤ u.length) : Answers s (take 8) u (Parsed s (streamByte u 0) (u.drop 8)) :=
  (take_yields (by decide) hu).answers fun t =>
    (take_ends (by decide) t).mono (fun _ _ ⟨_, hr, _⟩ => hr) fun _ _ h => h

theorem checkReserved_passes {d : Bool} (h : s.strictS = true → d = false) :
    Answers s (checkReserved d) u (Parsed s () u) := by
  intro t ht
  refine ⟨t, if_neg fun hc => ?_, ht⟩
  rw [Bool.and_eq_true, ht.reads.strictS_eq] at hc
  obtain ⟨hd, hs⟩ := hc
  exact Bool.false_ne_true ((h hs).symm.trans hd)

theorem checkReserved_rejects {d : Bool} (hs : s.strictS = true) (hd : d = true) :
    Answers s (checkReserved d) u (Raised .malformedField) := by
  intro t ht
  refine ⟨t, if_pos ?_⟩
  rw [ht.reads.strictS_eq, hs, hd]
  rfl

/-- The byte at the head of the unread sequence, where OBU_HDR finds the header byte. -/
def headerAt (u : List Bool) : Byte := BitVec.ofNat 8 (streamByte u 0)

theorem readHeader_parsed (hu : 8 ≤ u.length) (hd : s.strictS = true → (headerByte (headerAt u)).dirty = false) :
    Answers s readHeader u (Parsed s (headerByte (headerAt u)) (u.drop 8)) :=
  (takeByte_answers hu).bind ((checkReserved_passes hd).bind (.pure _ _))

theorem readHeader_rejected (hu : 8 ≤ u.length) (hs : s.strictS = true)
    (hd : (headerByte (headerAt u)).dirty = true) : Answers s readHeader u (Raised .malformedField) :=
  (takeByte_answers hu).bind (checkReserved_rejects hs hd).bind_raised

theorem readHeader_cut (hu : u.length < 8) : Answers s readHeader u (Raised .endOfStream) :=
  (take_runsOut hu).answers.bind_raised

/-- The extension byte after the header byte, all 0 when the header has none. -/
def extAt (u : List Bool) : Byte := if (headerAt u).getLsbD 2 then BitVec.ofNat 8 (streamByte u 1) else 0

theorem extAt_of_ext (h : (headerAt u).getLsbD 2 = true) : extAt u = BitVec.ofNat 8 (streamByte (u.drop 8) 0) := by
  rw [extAt, if_pos h, streamByte_drop_one]

/-- The number of bytes before the size: the header byte and the extension byte, if there is one. -/
def sizeStart (u : List Bool) : Nat := 1 + ((headerAt u).getLsbD 2).toNat

theorem le_of_sizeStart (hu : 8 * sizeStart u ≤ u.length) : 8 ≤ u.length := by
  unfold sizeStart at hu
  omega

theorem readExt_parsed (hu : 8 * sizeStart u ≤ u.length)
    (hd : s.strictS = true → (extByte (extAt u)).dirty = false) :
    Answers s (readExt ((headerAt u).getLsbD 2)) (u.drop 8)
      (Parsed s (extByte (extAt u)) (u.drop (8 * sizeStart u))) := by
  cases he : (headerAt u).getLsbD 2 with
  | false =>
    rw [extAt, sizeStart, he, if_neg Bool.false_ne_true]
    exact .pure ExtByte.absent _
  | true =>
    rw [sizeStart, he] at hu
    have hlen : 8 ≤ (u.drop 8).length := by
      rw [List.length_drop]
      exact Nat.le_sub_of_add_le hu
    rw [extAt_of_ext he] at hd ⊢
    rw [sizeStart, he, show 8 * (1 + true.toNat) = 8 + 8 from rfl, ← List.drop_drop]
    exact (takeByte_answers hlen).bind ((checkReserved_passes hd).bind (.pure _ _))

theorem readExt_rejected (hu : 16 ≤ u.length) (he : (headerAt u).getLsbD 2 = true) (hs : s.strictS = true)
    (hd : (extByte (extAt u)).dirty = true) :
    Answers s (readExt ((headerAt u).getLsbD 2)) (u.drop 8) (Raised .malformedField) := by
  have hlen : 8 ≤ (u.drop 8).length := by
    rw [List.length_drop]
    omega
  rw [extAt_of_ext he] at hd
  rw [he]
  exact (takeByte_answers hlen).bind (checkReserved_rejects hs hd).bind_raised

theorem readExt_cut (hu : u.length < 16) (he : (headerAt u).getLsbD 2 = true) :
    Answers s (readExt ((headerAt u).getLsbD 2)) (u.drop 8) (Raised .endOfStream) := by
  have hlen : (u.drop 8).length < 8 := by
    rw [List.length_drop]
    omega
  rw [he]
  exact (take_runsOut hlen).answers.bind_raised

theorem lebValue_drop (u : List Bool) (o n : Nat) : lebValue (u.drop (8 * o)) 0 n = lebValue u o n := by
  simp only [lebValue, streamByte_drop, Nat.zero_add]

/-- `n` bytes of 7 bits each. -/
theorem lebValue_lt (u : List Bool) (o n : Nat) : lebValue u o n < 2 ^ (7 * n) := by
  induction n with
  | zero => exact Nat.one_pos
  | succ n ih =>
    have hdigit : streamByte u (o + n) % 128 ≤ 127 := by omega
    have hmul := Nat.mul_le_mul_right (2 ^ (7 * n)) hdigit
    rw [lebValue, List.sum_range_succ, ← lebValue, Nat.mul_succ, Nat.pow_add]
    omega

/-- The explicit size after the header and extension bytes, 0 when the header has none. -/
def sizeAt (u : List Bool) (n : Nat) : Nat := if (headerAt u).getLsbD 1 then lebValue u (sizeStart u) n else 0

/-- The size takes `n` bytes: those of its leb128, or none when the header has no size. -/
def SizeSpans (u : List Bool) (n : Nat) : Prop :=
  if (headerAt u).getLsbD 1 then LebAt u (sizeStart u) n else n = 0

theorem SizeSpans.le {n : Nat} (h : SizeSpans u n) (hu : 8 * sizeStart u ≤ u.length) :
    8 * (sizeStart u + n) ≤ u.length := by
  unfold SizeSpans at h
  split at h
  next =>
    obtain ⟨-, -, hlen, -⟩ := h
    exact hlen
  next => rwa [h]

theorem readSize_parsed {n : Nat} (hu : 8 * sizeStart u ≤ u.length) (hn : SizeSpans u n) :
    Answers s (readSize ((headerAt u).getLsbD 1)) (u.drop (8 * sizeStart u))
      (Parsed s (sizeAt u n, n) (u.drop (8 * (sizeStart u + n)))) := by
  rw [Nat.mul_add, ← List.drop_drop]
  unfold SizeSpans at hn
  unfold sizeAt
  cases hb : (headerAt u).getLsbD 1 with
  | false =>
    rw [hb, if_neg Bool.false_ne_true] at hn
    rw [hn, if_neg Bool.false_ne_true]
    exact .pure _ _
  | true =>
    rw [hb, if_pos rfl] at hn
    have hy := lebBytes_yields 0 0 ((lebAt_iff hu).1 hn)
    have hval : lebResult (u.drop (8 * sizeStart u)) 0 0 n = (lebValue u (sizeStart u) n, n) :=
      Prod.ext ((lebResult_value _ n).trans (lebValue_drop u _ n)) (Nat.zero_add n)
    rw [hval] at hy
    exact hy.answers fun t => (lebBytes_ends 8 0 0 t (by decide)).mono (fun _ _ ⟨_, _, _, hr⟩ => hr) fun _ _ h => h

theorem readSize_cut (hu : 8 * sizeStart u ≤ u.length) (hb : (headerAt u).getLsbD 1 = true)
    (hn : ∀ n, ¬ LebAt u (sizeStart u) n) :
    Answers s (readSize ((headerAt u).getLsbD 1)) (u.drop (8 * sizeStart u)) (Raised .endOfStream) := by
  rw [hb]
  exact (lebBytes_runsOut (by decide) 0 0 fun n h => hn n ((lebAt_iff hu).2 h)).answers

/-! ### The payload boundary -/

/-- The OBU registers of a header with a payload of `len` bytes at byte `off` of the window. -/
def obuRegsOf (h : HeaderByte) (x : ExtByte) (sz : Nat × Nat) (off len : Nat) : ObuRegs where
  info := obuInfoOf h x (1 + h.ext.toNat + sz.2)
  size := BitVec.ofNat 64 sz.1
  payloadOff := BitVec.ofNat 32 off
  payloadLen := BitVec.ofNat 64 len

theorem frameObuAt_of_fits {h : HeaderByte} {sz : Nat × Nat} {rem : Nat} (hfit : h.hasSize = true → sz.1 ≤ rem)
    (x : ExtByte) (off : Nat) (t : State) :
    frameObuAt h x sz off rem t =
      .ok (some (BitVec.ofNat 64 (if h.hasSize then sz.1 else rem)))
        (t.writeObu (obuRegsOf h x sz off (if h.hasSize then sz.1 else rem)) (h.dirty || x.dirty)) := by
  unfold frameObuAt payloadLength
  cases hb : h.hasSize with
  | false => rfl
  | true =>
    rw [if_pos rfl, if_neg (Nat.not_lt.2 (hfit hb))]
    rfl

theorem frameObuAt_oversize {h : HeaderByte} {sz : Nat × Nat} {rem : Nat} (hb : h.hasSize = true) (hlt : rem < sz.1)
    (x : ExtByte) (off : Nat) (t : State) : frameObuAt h x sz off rem t = .raise .endOfStream t := by
  rw [frameObuAt, payloadLength, if_pos hb, if_pos hlt]
  rfl

theorem Reads.sessLen_eq {t : State} (h : Reads s t) : t.sessLen = s.sessLen := by rw [h]

/-- POS after `n` bytes of the unread sequence, in bytes. -/
theorem Reading.pos_div {t : State} {n : Nat} (h : Reading s (u.drop (8 * n)) t) (hs : s.Inv) (hu : s.unread = u)
    (hn : 8 * n ≤ u.length) : t.pos / 8 = s.pos / 8 + n := by
  have hstart := hs.pos_add_unread
  have hend := h.live.inv.pos_add_unread
  rw [h.unread, List.length_drop, h.reads.sessLen_eq] at hend
  rw [hu] at hstart
  omega

/-- After a header of `n` bytes the payload starts at byte `s.pos / 8 + n`, and the window ends after what remains. -/
theorem frameObu_answers {h : HeaderByte} {x : ExtByte} {sz : Nat × Nat} {n : Nat} {Q : Res (Option Word) → Prop}
    (hs : s.Inv) (hu : s.unread = u) (hn : 8 * n ≤ u.length)
    (hf : Answers s (frameObuAt h x sz (s.pos / 8 + n) (s.sessLen.toNat - (s.pos / 8 + n))) (u.drop (8 * n)) Q) :
    Answers s (frameObu h x sz) (u.drop (8 * n)) Q := by
  intro t ht
  rw [frameObu_eq, ht.pos_div hs hu hn, ht.reads.sessLen_eq]
  exact hf t ht

end

/-! ### OBU_HDR as a whole -/

section
variable {s : State} {u : List Bool} {n : Nat} {Q : Res (Option Word) → Prop}

/-- Past a header that the policy accepts, OBU_HDR answers as the payload's framing does. -/
theorem bodyObuHdr_answers (ha : u.length % 8 = 0) (hu : 8 * sizeStart u ≤ u.length)
    (hd : s.strictS = true → (headerByte (headerAt u)).dirty = false)
    (hx : s.strictS = true → (extByte (extAt u)).dirty = false) (hn : SizeSpans u n)
    (hf : Answers s (frameObu (headerByte (headerAt u)) (extByte (extAt u)) (sizeAt u n, n))
      (u.drop (8 * (sizeStart u + n))) Q) : Answers s bodyObuHdr u Q :=
  onByteBoundary_answers ha ((readHeader_parsed (le_of_sizeStart hu) hd).bind
    ((readExt_parsed hu hx).bind ((readSize_parsed hu hn).bind hf)))

theorem State.Ready.reading {k : Nat} (hs : s.Ready k) :
    Reading s.allAnswered.checkpoint s.unread s.allAnswered.checkpoint :=
  ⟨hs.allAnswered, rfl, rfl⟩

theorem obuHdr_affords (hs : s.Inv) : s.Affords .obuHdr 14 :=
  fun t ht => (sourceReadsAreBounded .obuHdr s.allAnswered t hs ht).2.2

/-- An error of the parse fails the command, and the result registers stay (42_obu_framer.md R134). -/
theorem exec_obuHdr_raised {e : ErrCode} (hs : s.Ready 14) (he : e ≠ .none)
    (hb : Answers s.allAnswered.checkpoint bodyObuHdr s.unread (Raised e)) :
    ∃ t, exec .obuHdr s = .next t ∧ s.Failed t e ∧ s.SameObu t := by
  obtain ⟨u, hu⟩ := hb _ hs.reading
  have h : exec .obuHdr s.allAnswered = .next (u.rollback.failWith e) :=
    command_eq_next.2 (.inr ⟨rfl, .inr (.inr ⟨e, u, hu, rfl⟩)⟩)
  have hrun := exec_of_ready hs (obuHdr_affords hs.1) h
  exact ⟨_, hrun, exec_failed hrun rfl he, (failedCommandRollsBack .obuHdr s _ hrun he).2.1⟩

/-- The answer is the value `v`, with the OBU registers `o` written, a warning when `w`, and `r` left unread. -/
def Framed (s : State) (v : Word) (o : ObuRegs) (w : Bool) (r : List Bool) (a : Res (Option Word)) : Prop :=
  ∃ t, a = .ok (some v) (t.writeObu o w) ∧ Reading s r t

theorem exec_obuHdr_framed {v : Word} {o : ObuRegs} {w : Bool} {r : List Bool} (hs : s.Ready 14)
    (hb : Answers s.allAnswered.checkpoint bodyObuHdr s.unread (Framed s.allAnswered.checkpoint v o w r)) :
    ∃ t, Delivers .obuHdr s v r t ∧ t.obu = o ∧ t.rsvdWarn = (s.rsvdWarn || w) := by
  obtain ⟨u, hu, hread⟩ := hb _ hs.reading
  have h : exec .obuHdr s.allAnswered = .next ((u.writeObu o w).succeed v) :=
    command_eq_next.2 (.inr ⟨rfl, .inl ⟨v, _, hu, rfl⟩⟩)
  exact ⟨_, ⟨exec_of_ready hs (obuHdr_affords hs.1) h, ⟨rfl, rfl, rfl, rfl⟩, hread.unread⟩, rfl,
    congrArg (· || w) hread.reads.sameObu.2⟩

end

/-- Settles O39: what the body ends in, and the commit or the rollback after it. -/
theorem obuHdrFrame : Obligations.ObuHdrFrame := by
  intro s t (h : execObuHdr s = .next t)
  have hends := bodyObuHdr_ends s.checkpoint
  have hrep := bodyObuHdr_reports s.checkpoint
  rcases command_eq_next.1 h with ⟨hl, -⟩ | ⟨-, ⟨v, u, hu, rfl⟩ | ⟨u, hu, rfl⟩ | ⟨e, u, hu, rfl⟩⟩
  · cases hl
  all_goals rw [hu] at hends hrep
  · obtain ⟨hv, -, -, hwarn, hframe⟩ := hends
    refine ⟨?_, fun he => absurd rfl he, hwarn, fun _ => Option.some.inj hv, by rw [hframe]; rfl⟩
    rw [hframe]
    exact ⟨rfl, rfl, rfl, rfl, rfl, rfl, rfl, rfl, rfl, rfl, rfl, fun _ => rfl⟩
  · exact absurd rfl hrep
  · obtain ⟨(hr : Reads s.checkpoint u), -⟩ := hends
    exact ⟨hr.sameSetup, fun _ => ⟨hr.sameObu, hr.result_eq⟩, hr.sameObu.2.trans, fun he => absurd he hrep,
      by rw [hr]; rfl⟩

/-! ### The errors of the parse -/

theorem extByte_dirty (b : Byte) : (extByte b).dirty = decide (b.toNat % 8 ≠ 0) := by
  refine decide_eq_decide.2 (not_congr ?_)
  rw [← BitVec.toNat_inj]
  rfl

/-- The reserved bits of an extension byte, read from the unread sequence. -/
theorem extAt_dirty {u : List Bool} (h : (headerAt u).getLsbD 2 = true) :
    (extByte (extAt u)).dirty = decide (streamByte u 1 % 8 ≠ 0) := by
  rw [extByte_dirty, extAt, if_pos h, BitVec.toNat_ofNat, Nat.mod_mod_of_dvd _ (by decide)]

theorem extAt_clean {u : List Bool} (h : (headerAt u).getLsbD 2 = true → streamByte u 1 % 8 = 0) :
    (extByte (extAt u)).dirty = false := by
  cases he : (headerAt u).getLsbD 2 with
  | false =>
    rw [extAt, he]
    rfl
  | true => rw [extAt_dirty he, h he]; rfl

/-- Settles O29: the first check that fails ends the parse. -/
theorem strictPolicyRejectsReservedBits : Obligations.StrictPolicyRejectsReservedBits := by
  intro s hs hpos (hstrict : s.allAnswered.checkpoint.strictS = true) u h
  have ha : u.length % 8 = 0 := hs.1.unread_mod hpos
  refine ⟨fun hu hbit => ?_, fun hu h7 h0 h2 hx => ?_⟩ <;>
    refine exec_obuHdr_raised hs (by decide) (onByteBoundary_answers ha ?_)
  · exact (readHeader_rejected hu hstrict (Bool.or_eq_true_iff.2 hbit)).bind_raised
  · have hheader : (headerByte (headerAt u)).dirty = false := Bool.or_eq_false_iff.2 ⟨h7, h0⟩
    have hext : (extByte (extAt u)).dirty = true := (extAt_dirty h2).trans (decide_eq_true hx)
    exact (readHeader_parsed (Nat.le_trans (by decide) hu) fun _ => hheader).bind
      (readExt_rejected hu h2 hstrict hext).bind_raised

/-- Settles O30: what is cut off is the part of the parse that runs out, and the size is checked after it. -/
theorem truncatedOrOversizedObuFails : Obligations.TruncatedOrOversizedObuFails := by
  intro s hs hpos u h o clean cleanExt fails
  have ha : u.length % 8 = 0 := hs.1.unread_mod hpos
  have fails_of (hb : Answers s.allAnswered.checkpoint bodyObuHdr u (Raised .endOfStream)) : fails :=
    exec_obuHdr_raised hs (by decide) hb
  have accept (hc : clean) (hstrict : s.allAnswered.checkpoint.strictS = true) :
      (headerByte (headerAt u)).dirty = false := Bool.or_eq_false_iff.2 (hc hstrict)
  have acceptExt (hc : cleanExt) (hstrict : s.allAnswered.checkpoint.strictS = true) :
      (extByte (extAt u)).dirty = false := extAt_clean (hc hstrict)
  refine ⟨fun hu => ?_, fun hu hc h2 hcut => ?_, fun hu hc hx hb hn => ?_, fun n hu hc hx hb hn hlt => ?_⟩ <;>
    apply fails_of
  · exact onByteBoundary_answers ha (readHeader_cut hu).bind_raised
  · exact onByteBoundary_answers ha ((readHeader_parsed hu (accept hc)).bind (readExt_cut hcut h2).bind_raised)
  · exact onByteBoundary_answers ha ((readHeader_parsed (le_of_sizeStart hu) (accept hc)).bind
      ((readExt_parsed hu (acceptExt hx)).bind (readSize_cut hu hb hn).bind_raised))
  · have hspan : SizeSpans u n := (if_pos hb).mpr hn
    have hsize : sizeAt u n = lebValue u o n := if_pos hb
    rw [Nat.add_assoc, ← hsize] at hlt
    exact bodyObuHdr_answers ha hu (accept hc) (acceptExt hx) hspan
      (frameObu_answers hs.1 rfl (hspan.le hu) fun t _ => ⟨t, frameObuAt_oversize hb hlt _ _ t⟩)

/-! ### The accepted header -/

theorem reservedTag_eq (tag : BitVec 4) :
    reservedTag tag = decide (tag.toNat = 0 ∨ (9 ≤ tag.toNat ∧ tag.toNat ≤ 14)) := by
  rw [reservedTag, Bool.decide_or, Bool.decide_and]

theorem headerByte_tag (b : Byte) : (headerByte b).tag.toNat = b.toNat / 8 % 16 := by
  rw [headerByte, BitVec.extractLsb'_toNat, Nat.shiftRight_eq_div_pow]

theorem extByte_eq (b : Byte) :
    extByte b = { temporalId := BitVec.ofNat 3 (b.toNat / 32), spatialId := BitVec.ofNat 2 (b.toNat / 8),
                  rsvd3 := BitVec.ofNat 3 b.toNat } := by
  simp only [extByte, BitVec.extractLsb', Nat.shiftRight_eq_div_pow, Nat.reducePow, Nat.div_one]

/-- The fields of OBU_INFO as 30_encoding.md R80 and R81 place them. -/
theorem obuInfoOf_eq (b e : Byte) (len : Nat) :
    obuInfoOf (headerByte b) (extByte e) len =
      { tag := BitVec.ofNat 4 (b.toNat / 8 % 16),
        typeReserved := decide (b.toNat / 8 % 16 = 0 ∨ (9 ≤ b.toNat / 8 % 16 ∧ b.toNat / 8 % 16 ≤ 14)),
        extFlag := b.getLsbD 2, hasSize := b.getLsbD 1, temporalId := BitVec.ofNat 3 (e.toNat / 32),
        spatialId := BitVec.ofNat 2 (e.toNat / 8), forbidden := b.getLsbD 7, rsvd1 := b.getLsbD 0,
        extRsvd3 := BitVec.ofNat 3 e.toNat, hdrLen := BitVec.ofNat 4 len } := by
  rw [← headerByte_tag, ← reservedTag_eq, BitVec.ofNat_toNat, BitVec.setWidth_eq, extByte_eq]
  rfl

section
variable {s : State} {n : Nat}

/-- The window byte at which the payload starts, after a size of `n` bytes. -/
def State.payloadAt (s : State) (n : Nat) : Nat := s.pos / 8 + sizeStart s.unread + n

/-- The payload's length: the explicit size, or what remains of the window. -/
def State.payloadSpan (s : State) (n : Nat) : Nat :=
  if (headerAt s.unread).getLsbD 1 then sizeAt s.unread n else s.sessLen.toNat - s.payloadAt n

theorem State.Inv.payloadAt_le (hs : s.Inv) (hlen : 8 * (sizeStart s.unread + n) ≤ s.unread.length) :
    s.payloadAt n ≤ s.sessLen.toNat := by
  have hend := hs.pos_add_unread
  unfold State.payloadAt
  omega

/-- A size of at most 8 bytes of 7 bits fits OBU_SIZE. -/
theorem SizeSpans.sizeAt_lt {u : List Bool} (h : SizeSpans u n) : sizeAt u n < 2 ^ 64 := by
  unfold SizeSpans at h
  unfold sizeAt
  cases hb : (headerAt u).getLsbD 1 with
  | false => exact Nat.two_pow_pos 64
  | true =>
    rw [hb, if_pos rfl] at h
    obtain ⟨-, h8, -⟩ := h
    exact (lebValue_lt u _ n).trans_le (Nat.pow_le_pow_right (by decide) (by omega))

theorem SizeSpans.payloadSpan_lt (h : SizeSpans s.unread n) : s.payloadSpan n < 2 ^ 64 := by
  unfold State.payloadSpan
  split
  · exact h.sizeAt_lt
  · omega

/-- OBU_HDR on a header that the policy accepts, with a payload that fits the window: the parts of the parse one after
another. -/
theorem exec_obuHdr_of_fits (hs : s.Ready 14) (hpos : s.pos % 8 = 0) (hu : 8 * sizeStart s.unread ≤ s.unread.length)
    (hd : s.strictS = true →
      ((headerByte (headerAt s.unread)).dirty || (extByte (extAt s.unread)).dirty) = false)
    (hn : SizeSpans s.unread n)
    (hfit : (headerAt s.unread).getLsbD 1 = true → sizeAt s.unread n ≤ s.sessLen.toNat - s.payloadAt n) :
    ∃ t, Delivers .obuHdr s (BitVec.ofNat 64 (s.payloadSpan n)) (s.unread.drop (8 * (sizeStart s.unread + n))) t ∧
      t.obu = obuRegsOf (headerByte (headerAt s.unread)) (extByte (extAt s.unread)) (sizeAt s.unread n, n)
        (s.payloadAt n) (s.payloadSpan n) ∧
      t.rsvdWarn = (s.rsvdWarn || ((headerByte (headerAt s.unread)).dirty || (extByte (extAt s.unread)).dirty)) := by
  have hclean (h : s.allAnswered.checkpoint.strictS = true) := Bool.or_eq_false_iff.1 (hd h)
  refine exec_obuHdr_framed hs (bodyObuHdr_answers (hs.1.unread_mod hpos) hu (fun h => (hclean h).1)
    (fun h => (hclean h).2) hn (frameObu_answers hs.1 rfl (hn.le hu) fun t ht => ⟨t, ?_, ht⟩))
  rw [← Nat.add_assoc]
  exact frameObuAt_of_fits hfit _ _ t

end

/-- Settles O28: the parse delivers the payload's length, and the registers are read off field by field. -/
theorem obuHdrFramesTheHeader : Obligations.ObuHdrFramesTheHeader := by
  intro s n hs hpos u h ext hasSize x o tag dirty size off len hu hn hd hfit
  have hspan : SizeSpans u n := hn
  have hlen : 8 * (o + n) ≤ u.length := hspan.le hu
  have hdirty : ((headerByte (headerAt u)).dirty || (extByte (extAt u)).dirty) = dirty := by
    rw [extByte_dirty]
    rfl
  have hoff : off ≤ s.sessLen.toNat := hs.1.payloadAt_le hlen
  obtain ⟨t, ht, hobu, hwarn⟩ :=
    exec_obuHdr_of_fits hs hpos hu (fun hstrict => hdirty.trans (hd hstrict)) hspan hfit
  have hpos' : t.pos = s.pos + 8 * (o + n) := ht.pos_drop nofun hs.1 hlen
  refine ⟨t, ht.next, ht.succeeded, ?_, ?_, ?_, ?_, hwarn.trans (congrArg _ hdirty), ht.unread, ?_,
    ht.lazy nofun hs.1⟩
  · exact hobu ▸ obuInfoOf_eq h x (o + n)
  · exact hobu ▸ (BitVec.toNat_ofNat _ _).trans (Nat.mod_eq_of_lt hspan.sizeAt_lt)
  · exact hobu ▸ (BitVec.toNat_ofNat _ _).trans (Nat.mod_eq_of_lt (hoff.trans_lt s.sessLen.isLt))
  · exact hobu ▸ (BitVec.toNat_ofNat _ _).trans (Nat.mod_eq_of_lt hspan.payloadSpan_lt)
  · have hstart : off = s.pos / 8 + o + n := rfl
    omega

end Sys2Proof.Machine
end

section
/-! Sessions (43_session.md R150 and R151): an exhausted window, the session that BIND starts, and what ends one. -/

namespace Sys2Proof.Machine

/-! ### Nothing left to read -/

/-- No bit is unread, on a window that FOFF is inside. Unlike `RunsOut`, whose states are live, this asks nothing else of
the state: the source is not read any more. -/
def State.AtEnd (s : State) : Prop := s.InRange ∧ s.unread = []

/-- Where nothing is unread, `p` raises EndOfStream. -/
def NeedsBits {α : Type} (p : State → Res α) : Prop := ∀ s : State, s.AtEnd → ∃ t, p s = .raise .endOfStream t

theorem take_needsBits {n : Nat} (hn : 1 ≤ n) : NeedsBits (take n) := by
  rintro s ⟨hin, hu⟩
  have hlen := s.unread_length
  rw [hu, List.length_nil] at hlen
  exact take_of_unread_lt hin (fun i hi => by omega) (by rw [hu]; exact hn)

theorem NeedsBits.bind {α β : Type} {p : State → Res α} {k : α → State → Res β} (hp : NeedsBits p) :
    NeedsBits fun s => (p s).bind k := by
  intro s hs
  obtain ⟨t, ht⟩ := hp s hs
  exact ⟨t, Res.bind_eq_raise.2 (.inl ht)⟩

/-- The end of a window is a byte boundary. -/
theorem NeedsBits.onByteBoundary {body : State → Res (Option Word)} (h : NeedsBits body) :
    NeedsBits (onByteBoundary body) := by
  intro s hs
  rw [Machine.onByteBoundary, if_pos (s.aligned_iff_unread.2 (by rw [hs.2]; rfl))]
  exact h s hs

theorem uvlcRun_needsBits (fuel k : Nat) : NeedsBits (uvlcRun fuel k) := by
  cases fuel with
  | zero => exact fun s _ => ⟨s, rfl⟩
  | succ fuel => exact (take_needsBits (Nat.le_refl 1)).bind

theorem leBytes_needsBits {m : Nat} (hm : 1 ≤ m) (i v : Nat) : NeedsBits (leBytes m i v) := by
  obtain ⟨m, rfl⟩ := Nat.exists_eq_add_of_le' hm
  exact (take_needsBits (n := 8) (by decide)).bind

/-- Every alphabet but that of one symbol has codes of at least one bit (41_cursor_reads.md R106). -/
theorem two_le_nsWidth {n : Nat} (h : 2 ≤ n) : 2 ≤ nsWidth n :=
  Nat.succ_le_succ ((Nat.le_log2 (by omega)).2 h)

theorem exec_needsBits {i : Instr} {s : State} {legal : Bool} {body : State → Res (Option Word)}
    (hexec : exec i = command legal body) (hl : legal = true) (hb : NeedsBits body) (hs : s.AtEnd) :
    ∃ t, exec i s = .next t ∧ s.Failed t .endOfStream := by
  obtain ⟨u, hu⟩ := hb s.checkpoint hs
  have h : exec i s = .next (u.rollback.failWith .endOfStream) := by
    rw [hexec]
    exact command_eq_next.2 (.inr ⟨hl, .inr (.inr ⟨_, u, hu, rfl⟩)⟩)
  exact ⟨_, h, exec_failed h rfl (by decide)⟩

/-- Where nothing is unread, every command but `ns 1` and BIND fails for want of a bit (43_session.md R150). -/
theorem exec_of_atEnd {i : Instr} {s : State} (hs : s.AtEnd) (hw : i.wellFormed = true) (hbind : i ≠ .bind)
    (hns : i ≠ .ns 1) : ∃ t, exec i s = .next t ∧ s.Failed t .endOfStream := by
  cases i with
  | f n => exact exec_needsBits rfl hw (take_needsBits ((legalBits_iff n).1 hw).1).bind hs
  | f1 => exact exec_needsBits (body := bodyF1) rfl rfl (take_needsBits (Nat.le_refl 1)).bind hs
  | uvlc => exact exec_needsBits (body := bodyUvlc) rfl rfl (uvlcRun_needsBits _ 0).bind hs
  | le n =>
    exact exec_needsBits rfl hw (leBytes_needsBits ((legalBytes_iff n).1 hw).1 0 0).bind.onByteBoundary hs
  | leb128 =>
    exact exec_needsBits (body := bodyLeb128) rfl rfl
      (take_needsBits (n := 8) (by decide)).bind.bind.onByteBoundary hs
  | su n => exact exec_needsBits rfl hw (take_needsBits ((legalBits_iff n).1 hw).1).bind hs
  | ns n =>
    have hn : n.toNat ≠ 1 := fun h => hns (congrArg Instr.ns (BitVec.eq_of_toNat_eq h))
    have hw1 := (legalAlphabet_iff n).1 hw
    have hwidth := two_le_nsWidth (n := n.toNat) (by omega)
    exact exec_needsBits (body := bodyNs n) rfl hw (take_needsBits (by omega)).bind hs
  | obuHdr =>
    exact exec_needsBits (body := bodyObuHdr) rfl rfl
      (take_needsBits (n := 8) (by decide)).bind.bind.onByteBoundary hs
  | bind => exact absurd rfl hbind

/-- The one symbol of `ns 1` has a code of no bits (41_cursor_reads.md R106). -/
theorem exec_ns_one (s : State) : exec (.ns 1) s = .next (s.checkpoint.succeed 0) := rfl

/-! ### BIND -/

theorem exec_bind_of_legal {s : State} (h : s.srcBase.toNat + s.srcLen.toNat ≤ 2 ^ 32) :
    exec .bind s = .next s.checkpoint.openSession.succeedNoValue := by
  rw [exec_bind_eq, if_pos ((legalWindow_iff s).2 h)]

theorem exec_bind_of_illegal {s : State} (h : 2 ^ 32 < s.srcBase.toNat + s.srcLen.toNat) :
    exec .bind s = .next (s.failWith .illegalCommand) := by
  rw [exec_bind_eq, if_neg fun hl => Nat.not_le.2 h ((legalWindow_iff s).1 hl)]

/-- An empty window is legal wherever it starts, and its session has nothing to read. -/
theorem exec_bind_empty {s t : State} (hlen : s.srcLen = 0) (h : exec .bind s = .next t) : t.AtEnd := by
  have hbase := s.srcBase.isLt
  have hzero : s.srcLen.toNat = 0 := by rw [hlen]; rfl
  rw [exec_bind_of_legal (by omega)] at h
  cases h
  refine ⟨Nat.zero_le _, List.eq_nil_of_length_eq_zero ?_⟩
  rw [State.unread_length]
  simp [State.unfetched, hlen, Cursor.empty]

/-- Settles O32: by whether the window is legal, and on an empty one by what each command reads first. -/
theorem bindStartsASession : Obligations.BindStartsASession := by
  intro s
  refine ⟨fun h => ⟨_, exec_bind_of_legal h, rfl, rfl⟩, exec_bind_of_illegal, fun t hlen ht => ?_,
    decode_argOf_append .bind (lo := 9) rfl, badWordsFail fun a ha => ?_⟩
  · exact ⟨fun i hw hbind hns => exec_of_atEnd (exec_bind_empty hlen ht) hw hbind hns,
      _, exec_ns_one t, rfl, rfl, rfl, rfl⟩
  · simp [LegalArg] at ha
    omega

/-! ### What ends a session -/

/-- From `s` to `t` the session goes on: the window is the same, and the cursor stays or advances (10_state.md R22, R24
and R25). -/
def SessionGoesOn (s t : State) : Prop :=
  t.sessBase = s.sessBase ∧ t.sessLen = s.sessLen ∧ s.cur.foff.toNat ≤ t.cur.foff.toNat ∧ s.pos ≤ t.pos ∧
    (s.cur.exh = true → t.cur.exh = true)

theorem SessionGoesOn.of_cur_eq {s t : State} (hbase : t.sessBase = s.sessBase) (hlen : t.sessLen = s.sessLen)
    (hcur : t.cur = s.cur) : SessionGoesOn s t := by
  rw [SessionGoesOn, State.pos, State.pos, hcur]
  exact ⟨hbase, hlen, Nat.le_refl _, Nat.le_refl _, id⟩

/-- Refills only move FOFF up, inside the window, and only set EXH (20_memory.md R54). -/
theorem State.LazilyRefilled.monotone {s t : State} (h : s.LazilyRefilled t) (hs : s.InRange) :
    s.cur.foff.toNat ≤ t.cur.foff.toNat ∧ (s.cur.exh = true → t.cur.exh = true) := by
  obtain ⟨hfoff, hexh⟩ := h
  refine ⟨?_, fun he => by rw [hexh, he, Bool.true_or]⟩
  rw [hfoff]
  exact Nat.le_min.2 ⟨hs, Nat.le_add_right _ _⟩

/-- A command that fails leaves the session and the cursor, and one other than BIND only advances in it. -/
theorem exec_sessionGoesOn {i : Instr} {s t : State} (hs : s.Inv) (h : exec i s = .next t) :
    SessionGoesOn s t ∨ (i = .bind ∧ t.err = .none) := by
  by_cases he : t.err = .none
  · by_cases hi : i = .bind
    · exact .inr ⟨hi, he⟩
    · obtain ⟨hlazy, hpos⟩ := refillsAreLazy i s t hs hi h he
      obtain ⟨hbase, hlen, -⟩ := (exec_ends h).session_eq hi
      obtain ⟨hfoff, hexh⟩ := hlazy.monotone hs.windowOk.1
      exact .inl ⟨hbase, hlen, hfoff, hpos, hexh⟩
  · obtain ⟨⟨-, -, -, hcur, -⟩, -, ⟨hbase, hlen, -⟩, -⟩ := failedCommandRollsBack i s t h he
    exact .inl (.of_cur_eq hbase hlen hcur)

theorem HostTurnEnds.sessionGoesOn {s t : State} (h : HostTurnEnds s t) :
    SessionGoesOn s t ∨ ∃ rest, s.inbox = .reset :: rest := by
  cases h with
  | access t h => exact .inl (by rw [h]; exact .of_cur_eq rfl rfl rfl)
  | srcWrite a b rest hi => exact .inl (.of_cur_eq rfl rfl rfl)
  | reset rest hi => exact .inr ⟨rest, hi⟩

/-- Settles O52: by whose step it is, and by how a command ends. -/
theorem sessionEndsByBindOrResetOnly : Obligations.SessionEndsByBindOrResetOnly := by
  intro s t hs h
  rcases step_cases h with ⟨-, rfl⟩ | ⟨hb, i, hi, -⟩ | ⟨-, hend⟩
  · exact .inl (SessionGoesOn.of_cur_eq rfl rfl rfl)
  · rw [step_of_blockTurn hb, runLatched_of_decode_ok hi] at h
    rcases exec_sessionGoesOn hs h with hgo | ⟨rfl, he⟩
    · exact .inl hgo
    · exact .inr (.inl ⟨hb, hi, he⟩)
  · exact hend.sessionGoesOn.imp_right .inr

end Sys2Proof.Machine
end

section
/-! Which commands report which error (60_exceptions.md R160 to R165). -/

namespace Sys2Proof.Machine

/-! ### What a body raises -/

/-- Whatever error a part of a body raises is one of `E`. -/
def Res.RaisesOnly {α : Type} (E : ErrCode → Prop) (r : Res α) : Prop := r.Ends (fun _ _ => True) fun e _ => E e

/-- What is read by read parts raises read errors only, when what follows does. -/
theorem Res.RaisesOnly.of_ends {α β : Type} {P : α → State → Prop} {s : State} {r : Res α} {k : α → State → Res β}
    (h : r.Ends P (ReadFails s)) (hk : ∀ v t, P v t → (k v t).RaisesOnly ReadError) :
    (r.bind k).RaisesOnly ReadError :=
  (h.mono (fun _ _ h => h) fun _ _ h => h.2).bind hk

theorem ret_raisesOnly (v : Nat) (s : State) : (ret v s).RaisesOnly ReadError := trivial

theorem bodyF_raisesOnly {n : BitVec 32} (h : legalBits n = true) (s : State) : (bodyF n s).RaisesOnly ReadError :=
  .of_ends (take_ends ((legalBits_iff n).1 h).2 s) fun _ _ _ => ret_raisesOnly _ _

theorem bodyF1_raisesOnly (s : State) : (bodyF1 s).RaisesOnly ReadError :=
  .of_ends (take_ends (by decide) s) fun _ _ _ => ret_raisesOnly _ _

theorem bodyUvlc_raisesOnly (s : State) : (bodyUvlc s).RaisesOnly ReadError := by
  refine .of_ends (uvlcRun_ends _ 0 s (by decide)) fun k t _ => ?_
  unfold uvlcTail
  split
  next => exact ret_raisesOnly _ _
  next hk => exact .of_ends (take_ends (by omega) t) fun _ _ _ => ret_raisesOnly _ _

theorem bodySu_raisesOnly {n : BitVec 32} (h : legalBits n = true) (s : State) : (bodySu n s).RaisesOnly ReadError :=
  .of_ends (take_ends ((legalBits_iff n).1 h).2 s) fun _ _ _ => trivial

theorem bodyNs_raisesOnly (n : BitVec 32) (s : State) : (bodyNs n s).RaisesOnly ReadError := by
  refine .of_ends (take_ends (by have := nsWidth_le n; omega) s) fun v t _ => ?_
  split
  next => exact ret_raisesOnly _ _
  next => exact .of_ends (take_ends (by decide) t) fun _ _ _ => ret_raisesOnly _ _

/-! ### The table of errors -/

/-- The command `i`, started in `s`, can end with this error code: the rows of the table of 60_exceptions.md R160, under
the conditions of R161 to R165. -/
def MayReport (i : Instr) (s : State) : ErrCode → Prop
  | .none => True
  | .endOfStream => i ≠ .bind
  | .sourceError => i ≠ .bind
  | .malformedField => i = .obuHdr ∧ s.strictS = true
  | .misaligned => (i = .leb128 ∨ i = .obuHdr ∨ ∃ n, i = .le n) ∧ s.aligned = false
  | .illegalCommand => operandsLegal i s = false

theorem ReadError.mayReport {e : ErrCode} (h : ReadError e) {i : Instr} (hi : i ≠ .bind) (s : State) :
    MayReport i s e := by
  rcases h with rfl | rfl <;> exact hi

theorem Res.RaisesOnly.mayReport {i : Instr} {r : Res (Option Word)} (h : r.RaisesOnly ReadError) (hi : i ≠ .bind)
    (s : State) : r.RaisesOnly (MayReport i s) :=
  Res.Ends.mono h (fun _ _ _ => trivial) fun _ _ he => he.mayReport hi s

/-- The bodies that start on a byte boundary add Misaligned to the read errors (60_exceptions.md R164). -/
theorem ReadBody.mayReport {i : Instr} {s : State} {r : Res (Option Word)} (h : ReadBody s r) (hi : i ≠ .bind)
    (hb : i = .leb128 ∨ i = .obuHdr ∨ ∃ n, i = .le n) : r.RaisesOnly (MayReport i s) := by
  refine h.mono (fun _ _ _ => trivial) ?_
  rintro e t ⟨-, he | ⟨rfl, ha⟩⟩
  · exact he.mayReport hi s
  · exact ⟨hb, ha⟩

theorem bodyObuHdr_mayReport (s : State) : (bodyObuHdr s).RaisesOnly (MayReport .obuHdr s) := by
  refine (bodyObuHdr_ends s).mono (fun _ _ _ => trivial) ?_
  rintro e t ⟨-, he | ⟨rfl, hs⟩ | ⟨rfl, ha⟩⟩
  · exact he.mayReport (i := .obuHdr) nofun s
  · exact ⟨rfl, hs⟩
  · exact ⟨.inr (.inl rfl), ha⟩

/-- What holds of success, of the refusal of illegal operands and of the body's errors holds of the error a command
ends with. -/
theorem command_err {legal : Bool} {body : State → Res (Option Word)} {s t : State} {E : ErrCode → Prop}
    (hnone : E .none) (hillegal : legal = false → E .illegalCommand)
    (hbody : legal = true → (body s.checkpoint).RaisesOnly E) (h : command legal body s = .next t) : E t.err := by
  rcases command_eq_next.1 h with ⟨hl, rfl⟩ | ⟨hl, ⟨v, u, -, rfl⟩ | ⟨u, -, rfl⟩ | ⟨e, u, hu, rfl⟩⟩
  · exact hillegal hl
  · exact hnone
  · exact hnone
  · have hraise := hbody hl
    rw [hu] at hraise
    exact hraise

theorem exec_mayReport {i : Instr} {s t : State} (h : exec i s = .next t) : MayReport i s t.err := by
  cases i with
  | f n => exact command_err trivial id (fun hl => (bodyF_raisesOnly hl _).mayReport (i := .f n) nofun s) h
  | f1 =>
    exact command_err (legal := true) trivial nofun (fun _ => (bodyF1_raisesOnly _).mayReport (i := .f1) nofun s) h
  | uvlc =>
    exact command_err (legal := true) trivial nofun (fun _ => (bodyUvlc_raisesOnly _).mayReport (i := .uvlc) nofun s) h
  | le n => exact command_err trivial id (fun _ => (bodyLe_ends n _).mayReport nofun (.inr (.inr ⟨n, rfl⟩))) h
  | leb128 =>
    exact command_err (legal := true) trivial nofun (fun _ => (bodyLeb128_ends _).mayReport nofun (.inl rfl)) h
  | su n => exact command_err trivial id (fun hl => (bodySu_raisesOnly hl _).mayReport (i := .su n) nofun s) h
  | ns n => exact command_err trivial id (fun _ => (bodyNs_raisesOnly n _).mayReport (i := .ns n) nofun s) h
  | obuHdr => exact command_err (legal := true) trivial nofun (fun _ => bodyObuHdr_mayReport _) h
  | bind => exact command_err (body := bodyBind) trivial id (fun _ => trivial) h

/-- STATUS shows the error code in its bits 7:4 (10_state.md R34). -/
theorem statusWord_err (s : State) : (statusWord s).toNat / 2 ^ 4 % 2 ^ 4 = s.err.code.toNat := by
  have hbusy := Bool.toNat_le s.busy
  have hres := Bool.toNat_le s.resValid
  have hcode := s.err.code.isLt
  rw [statusWord_toNat]
  omega

theorem operandsLegal_eq_false {i : Instr} {s : State} (h : operandsLegal i s = false) :
    i.wellFormed = false ∨ (i = .bind ∧ 2 ^ 32 < s.srcBase.toNat + s.srcLen.toNat) := by
  cases i with
  | bind =>
    refine .inr ⟨rfl, Nat.not_le.1 fun hle => ?_⟩
    exact Bool.false_ne_true (h.symm.trans ((legalWindow_iff s).2 hle))
  | _ => exact .inl h

/-- Settles O49: the code is a field of STATUS, and each row is a row of the table. -/
theorem errorsComeFromTheirCommands : Obligations.ErrorsComeFromTheirCommands := by
  intro i s t h code
  have hcode {e : ErrCode} (he : t.err = e) : code = e.code.toNat := he ▸ statusWord_err t
  have hrow {e : ErrCode} (he : t.err = e) : MayReport i s e := he ▸ exec_mayReport h
  exact ⟨fun he => hcode he, fun he => ⟨hcode he, hrow he⟩, fun he => ⟨hcode he, hrow he⟩,
    fun he => ⟨hcode he, hrow he⟩, fun he => ⟨hcode he, (hrow he).1⟩,
    fun he => ⟨hcode he, operandsLegal_eq_false (hrow he)⟩⟩

/-! ### Misaligned (R164) -/

/-- The three commands that start on a byte boundary check it before anything else of their bodies. -/
theorem exec_eq_onByteBoundary {i : Instr} (hi : i = .leb128 ∨ i = .obuHdr ∨ ∃ n, i = .le n) :
    ∃ body, exec i = command i.wellFormed (onByteBoundary body) := by
  rcases hi with rfl | rfl | ⟨n, rfl⟩ <;> exact ⟨_, rfl⟩

/-- Settles O31: the check comes before the body, and no part of the body raises Misaligned. -/
theorem misalignedStartFails : Obligations.MisalignedStartFails := by
  intro i s hs hw hi
  refine ⟨hs.aligned_iff, fun hpos => ?_, fun hpos t h he => ?_⟩
  · obtain ⟨body, hexec⟩ := exec_eq_onByteBoundary hi
    obtain ⟨t, h, hfailed, hdraws⟩ := exec_misaligned hexec hw hs hpos
    have herr : t.err ≠ .none := by rw [hfailed.1]; decide
    obtain ⟨-, hobu, -⟩ := failedCommandRollsBack i s t h herr
    exact ⟨t, h, hfailed, hobu, hdraws⟩
  · have hrow := exec_mayReport h
    rw [he] at hrow
    exact Bool.false_ne_true (hrow.2.symm.trans (hs.aligned_iff.2 hpos))

end Sys2Proof.Machine
end

section
/-! The sticky bits RSVD_WARN and OVERRUN (60_exceptions.md R170, 70_reset_and_hazards.md R189): what sets and clears
them, and that no command looks at them. -/

namespace Sys2Proof.Machine

/-! ### What a command does to them -/

theorem Reads.overrun_eq {s t : State} (h : Reads s t) : t.overrun = s.overrun := by rw [h]

theorem Reads.rsvdWarn_eq {s t : State} (h : Reads s t) : t.rsvdWarn = s.rsvdWarn := by rw [h]

theorem CommandEnds.overrun_eq {i : Instr} {s t : State} (h : CommandEnds i s t) : t.overrun = s.overrun := by
  cases h with
  | illegal => rfl
  | failed e u hr => exact hr.overrun_eq
  | read v u hr ht => exact hr.overrun_eq
  | framed v u hi hf ht =>
    obtain ⟨-, -, hu⟩ := hf
    rw [hu]
    rfl
  | bound hi hw => rfl

/-- RSVD_WARN is as it was in `s`, or the lenient policy has accepted a reserved bit and set it (42_obu_framer.md R132
and R134). -/
def WarnsLenientOnly (s t : State) : Prop :=
  t.rsvdWarn = s.rsvdWarn ∨ (s.strictS = false ∧ t.rsvdWarn = true)

theorem Res.Ends.forget {α : Type} {P : α → State → Prop} {Q : ErrCode → State → Prop} {r : Res α} (h : r.Ends P Q) :
    r.Ends P fun _ _ => True := h.mono (fun _ _ h => h) fun _ _ _ => trivial

theorem payloadLength_keeps (hasSize : Bool) (size rem : Nat) (s : State) :
    (payloadLength hasSize size rem s).Ends (fun _ t => t = s) fun _ _ => True := by
  unfold payloadLength
  split
  · split
    · trivial
    · rfl
  · rfl

theorem frameObu_warns {s t : State} (hr : Reads s t) {h : HeaderByte} {x : ExtByte}
    (hd : (h.dirty || x.dirty) = true → s.strictS = false) (sz : Nat × Nat) :
    (frameObu h x sz t).Ends (fun _ u => WarnsLenientOnly s u) fun _ _ => True := by
  refine (payloadLength_keeps h.hasSize sz.1 _ t).bind fun len u hu => ?_
  show (u.rsvdWarn || (h.dirty || x.dirty)) = s.rsvdWarn ∨ _
  rw [hu, hr.rsvdWarn_eq]
  cases hdirty : h.dirty || x.dirty with
  | false => exact .inl (Bool.or_false _)
  | true => exact .inr ⟨hd hdirty, Bool.or_true _⟩

theorem bodyObuHdr_warns (s : State) :
    (bodyObuHdr s).Ends (fun _ t => WarnsLenientOnly s t) fun _ _ => True := by
  unfold bodyObuHdr onByteBoundary
  split
  next =>
    refine (readHeader_ends s).forget.bind fun h t ⟨ht, hh⟩ => ?_
    refine (readExt_ends h.ext t).forget.bind fun x u ⟨hu, hx⟩ => ?_
    refine (readSize_ends h.hasSize u).forget.bind fun sz v ⟨_, _, hv⟩ => ?_
    refine frameObu_warns ((ht.trans hu).trans hv) (fun hd => ?_) sz
    rcases Bool.or_eq_true_iff.1 hd with hd | hd
    · exact hh hd
    · exact ht.strictS_eq ▸ hx hd
  next => trivial

theorem execObuHdr_warns {s t : State} (h : execObuHdr s = .next t) (he : t.err = .none) : WarnsLenientOnly s t := by
  have hwarns := bodyObuHdr_warns s.checkpoint
  have hrep := bodyObuHdr_reports s.checkpoint
  rcases command_eq_next.1 h with ⟨hl, -⟩ | ⟨-, ⟨v, u, hu, rfl⟩ | ⟨u, hu, rfl⟩ | ⟨e, u, hu, rfl⟩⟩
  · cases hl
  all_goals rw [hu] at hwarns hrep
  · exact hwarns
  · exact hwarns
  · exact absurd he hrep

/-- A command leaves RSVD_WARN, or is an OBU_HDR that succeeds under the lenient policy and sets it. -/
theorem exec_rsvdWarn {i : Instr} {s t : State} (h : exec i s = .next t) :
    t.rsvdWarn = s.rsvdWarn ∨ (i = .obuHdr ∧ s.strictS = false ∧ t.err = .none ∧ t.rsvdWarn = true) := by
  by_cases he : t.err = .none
  · cases exec_ends h with
    | illegal => cases he
    | failed e u hr => exact .inl hr.rsvdWarn_eq
    | read v u hr ht => exact .inl hr.rsvdWarn_eq
    | framed v u hi hf ht =>
      subst hi
      exact (execObuHdr_warns h he).imp_right fun ⟨hs, hw⟩ => ⟨rfl, hs, he, hw⟩
    | bound hi hw => exact .inl rfl
  · obtain ⟨-, ⟨-, hw⟩, -⟩ := failedCommandRollsBack i s t h he
    exact .inl hw

/-! ### What a step does to them -/

theorem hostRegAt_status {k : Nat} (h : hostRegAt k = some .status) : k = 1 := by
  unfold hostRegAt at h
  split at h <;> simp_all

/-- STATUS has one offset (10_state.md R32). -/
theorem hostRegOf_status {off : Nat} (h : hostRegOf off = some .status) : off = 0x08 := by
  unfold hostRegOf at h
  split at h
  next h8 =>
    have hnumber := hostRegAt_status h
    omega
  next => cases h

/-- What the step from `s` to `t` does to the sticky bits: nothing, the warning of a lenient OBU_HDR, the OVERRUN of a
write while BUSY = 1, the clearing of a write of STATUS with BUSY = 0, or the reset input. -/
inductive StickyStep (s t : State) : Prop where
  | kept (hw : t.rsvdWarn = s.rsvdWarn) (ho : t.overrun = s.overrun)
  | warned (hb : blockTurn s = true) (hi : decode (fetch s) = .ok .obuHdr) (hs : s.strictS = false)
      (he : t.err = .none) (hw : t.rsvdWarn = true) (ho : t.overrun = s.overrun)
  | overrun (hb : s.busy = true) (off : Nat) (v : Word) (rest : List HostOp) (hi : s.inbox = .regWrite off v :: rest)
      (hw : t.rsvdWarn = s.rsvdWarn) (ho : t.overrun = true)
  | cleared (hb : s.busy = false) (v : Word) (rest : List HostOp) (hi : s.inbox = .regWrite 0x08 v :: rest)
      (hw : t.rsvdWarn = (s.rsvdWarn && !v.getLsbD 9)) (ho : t.overrun = (s.overrun && !v.getLsbD 10))
  | reset (rest : List HostOp) (hi : s.inbox = .reset :: rest)

theorem regWrite_stickyStep {s : State} {off : Nat} {v : Word} {r : HostReg} {rest : List HostOp}
    (hi : s.inbox = .regWrite off v :: rest) (hr : hostRegOf off = some r) :
    StickyStep s (hostRegWrite r v (s.setInbox rest)) := by
  cases hb : s.busy with
  | true =>
    have hrun : hostRegWrite r v (s.setInbox rest) = (s.setInbox rest).setOverrun := if_pos hb
    exact hrun ▸ .overrun hb off v rest hi rfl rfl
  | false =>
    have hrun : hostRegWrite r v (s.setInbox rest) = hostRegSet r v (s.setInbox rest) := if_neg (by simp [hb])
    rw [hrun]
    cases r with
    | status => exact .cleared hb v rest (hostRegOf_status hr ▸ hi) rfl rfl
    | _ => exact .kept rfl rfl

theorem hostRegRead_stickyStep (r : HostReg) (s : State) (rest : List HostOp) :
    StickyStep s (hostRegRead r (s.setInbox rest)) := by
  rw [hostRegRead_frame]
  exact .kept rfl rfl

theorem hostTurn_stickyStep {s t : State} (h : hostTurn s = .next t) : StickyStep s t := by
  unfold hostTurn at h
  split at h
  next => cases h; exact .kept rfl rfl
  next op rest hi =>
    cases op with
    | regWrite off v =>
      obtain ⟨r, hr, rfl⟩ := atOffset_eq_next.1 h
      exact regWrite_stickyStep hi hr
    | regRead off =>
      obtain ⟨r, -, rfl⟩ := atOffset_eq_next.1 h
      exact hostRegRead_stickyStep r s rest
    | partialAccess off width => cases h
    | srcWrite a b => cases h; exact .kept rfl rfl
    | awaitDone => cases h; exact .kept rfl rfl
    | reset => cases h; exact .reset rest hi

theorem step_stickyStep {s t : State} (h : step s = .next t) : StickyStep s t := by
  cases hb : blockTurn s with
  | false =>
    rw [step_of_hostTurn hb] at h
    exact hostTurn_stickyStep h
  | true =>
    rw [step_of_blockTurn hb] at h
    cases hd : decode (fetch s) with
    | error e =>
      rw [runLatched_of_decode_error hd] at h
      cases h
      exact .kept rfl rfl
    | ok i =>
      rw [runLatched_of_decode_ok hd] at h
      have ho := (exec_ends h).overrun_eq
      rcases exec_rsvdWarn h with hw | ⟨rfl, hs, he, hw⟩
      · exact .kept hw ho
      · exact .warned hb hd hs he hw ho

/-! ### No command looks at them -/

/-- The state with other sticky bits. -/
def State.withSticky (s : State) (w o : Bool) : State := { s with rsvdWarn := w, overrun := o }

section
variable {w o : Bool}

/-- A continuation that commutes with `g` carries a difference by `g` through. -/
theorem Res.mapState_bind {α β : Type} {g : State → State} {r : Res α} {k : α → State → Res β}
    (h : ∀ v t, k v (g t) = (k v t).mapState g) : (r.mapState g).bind k = (r.bind k).mapState g := by
  cases r with
  | ok v t => exact h v t
  | raise e t => rfl
  | stuck => rfl

theorem srcRead_withSticky (s : State) : srcRead (s.withSticky w o) = (srcRead s).mapState (·.withSticky w o) := by
  rcases srcRead_cases s with ⟨ha, h⟩ | ⟨ha, h⟩ | ⟨ha, h⟩ <;> rw [h]
  · exact srcRead_of_data (s := s.withSticky w o) ha
  · exact srcRead_of_err (s := s.withSticky w o) ha
  · exact srcRead_of_never (s := s.withSticky w o) ha

theorem fillFrom_withSticky (k j : Nat) (s : State) :
    fillFrom k j (s.withSticky w o) = (fillFrom k j s).mapState (·.withSticky w o) := by
  induction k generalizing j s with
  | zero => rfl
  | succ k ih =>
    by_cases hend : s.cur.foff = s.sessLen
    · rw [fillFrom_succ_of_end hend, fillFrom_succ_of_end (s := s.withSticky w o) hend]
      rfl
    · rw [fillFrom, fillFrom, if_neg hend, if_neg (c := (s.withSticky w o).cur.foff = (s.withSticky w o).sessLen) hend,
        ← Res.mapState_bind fun b t => ih (j + 1) (t.setCur (t.cur.loadByte j b)), ← srcRead_withSticky]
      rfl

theorem refill_withSticky (s : State) : refill (s.withSticky w o) = (refill s).mapState (·.withSticky w o) :=
  fillFrom_withSticky 4 0 (s.setCur { s.cur with acc := 0 })

theorem takeRest_withSticky (hi need : Nat) (s : State) :
    takeRest hi need (s.withSticky w o) = (takeRest hi need s).mapState (·.withSticky w o) := by
  rcases Nat.lt_or_ge s.cur.valid.toNat need with hlt | hle
  · rw [takeRest_of_lt hlt, takeRest_of_lt (s := s.withSticky w o) hlt]
    rfl
  · rw [takeRest_of_le hle, takeRest_of_le (s := s.withSticky w o) hle]
    rfl

theorem take_withSticky (n : Nat) (s : State) :
    take n (s.withSticky w o) = (take n s).mapState (·.withSticky w o) := by
  by_cases hv : n ≤ s.cur.valid.toNat
  · rw [take_of_held hv, take_of_held (s := s.withSticky w o) hv]
    rfl
  · rw [Nat.not_le] at hv
    cases he : s.cur.exh
    · rw [take_of_refill hv he, take_of_refill (s := s.withSticky w o) hv he,
        ← Res.mapState_bind fun _ => takeRest_withSticky _ _]
      exact congrArg (Res.bind · _) (refill_withSticky s)
    · rw [take_of_exhausted hv he, take_of_exhausted (s := s.withSticky w o) hv he]
      rfl

end

/-- A parser runs the same beside other sticky bits, and may itself set the first. -/
theorem Parser.withSticky {α : Type} {p : State → Res α} (hp : Parser p) (s : State) (w o : Bool) :
    ∃ w', p (s.withSticky w o) = (p s).mapState (·.withSticky w' o) := by
  induction hp generalizing s w with
  | pure v => exact ⟨w, rfl⟩
  | raise e he => exact ⟨w, rfl⟩
  | take n hn => exact ⟨w, take_withSticky n s⟩
  | writeObu v obu warn => exact ⟨w || warn, rfl⟩
  | look hp ih => exact ih _ _ _ s w
  | @bind _ _ p k hp hk ihp ihk =>
    obtain ⟨w', hrun⟩ := ihp s w
    show ∃ w', (p (s.withSticky w o)).bind k = ((p s).bind k).mapState _
    rw [hrun]
    cases p s with
    | ok v t => exact ihk v t w'
    | raise e t => exact ⟨w', rfl⟩
    | stuck => exact ⟨w', rfl⟩

theorem exec_withSticky (i : Instr) (s : State) (w o : Bool) :
    ∃ w', exec i (s.withSticky w o) = mapNext (·.withSticky w' o) (exec i s) := by
  by_cases hi : i = .bind
  · subst hi
    refine ⟨w, ?_⟩
    rw [exec_bind_eq, exec_bind_eq, show legalWindow (s.withSticky w o) = legalWindow s from rfl]
    cases legalWindow s <;> rfl
  · obtain ⟨legal, body, hexec, hbody⟩ := exec_eq_command hi
    rw [hexec]
    cases legal with
    | false => exact ⟨w, rfl⟩
    | true =>
      obtain ⟨w', hrun⟩ := (hbody rfl).withSticky s.checkpoint w o
      refine ⟨w', ?_⟩
      show finish (body (s.checkpoint.withSticky w o)) = mapNext _ (finish (body s.checkpoint))
      rw [hrun]
      rcases body s.checkpoint with ⟨_ | v, t⟩ | ⟨e, t⟩ | _ <;> rfl

/-- Settles O50: by what each step does to the bits, and because a command runs the same beside others. -/
theorem stickyBitsStayUntilCleared : Obligations.StickyBitsStayUntilCleared := by
  refine ⟨fun s t h hreset => ?_, fun s v rest hb hi => ?_, fun s rest hi => ?_, fun i s t w o h => ?_⟩
  · cases step_stickyStep h with
    | kept hw ho => simp +contextual [hw, ho]
    | warned hb hi hs he hw ho => simp +contextual [hw, ho, hb, hi, hs, he]
    | overrun hb off v rest hi hw ho => simp +contextual [hw, ho, hb, hi]
    | cleared hb v rest hi hw ho => simp +contextual [hw, ho, hb, hi]
    | reset rest hi => exact absurd ⟨rest, hi⟩ hreset
  · exact ⟨_, step_of_idle_regWrite .status hb hi rfl, fun hv => by simp [hostRegSet, hv],
      fun hv => by simp [hostRegSet, hv]⟩
  · exact ⟨_, step_of_hostOp hi (.inr nofun), rfl, rfl⟩
  · obtain ⟨w', hrun⟩ := exec_withSticky i s w o
    rw [h] at hrun
    exact ⟨_, hrun, rfl⟩

end Sys2Proof.Machine
end

section
/-! Reset and hazards (70_reset_and_hazards.md): what the block does before its first BIND and on the reset input
(R180 and R181), and the host registers that a running command does not see (R186 and R188). -/

namespace Sys2Proof.Machine

/-! ### Reset -/

/-- The window of reset has no bytes, and its cursor holds no bits (43_session.md R150). -/
theorem State.atEnd_of_empty {s : State} (hcur : s.cur = Cursor.empty) (hlen : s.sessLen = 0) : s.AtEnd := by
  refine ⟨?_, List.eq_nil_of_length_eq_zero ?_⟩
  · rw [State.InRange, hcur]
    exact Nat.zero_le _
  · rw [State.unread_length, State.unfetched, hcur, hlen]
    rfl

/-- Settles O17: the window of reset is at its end, and the code of `ns 1` has no bits. -/
theorem readsFailBeforeTheFirstBind : Obligations.ReadsFailBeforeTheFirstBind := by
  intro i s hw hbind hcur hlen
  refine ⟨exec_of_atEnd (s.atEnd_of_empty hcur hlen) hw hbind, ?_⟩
  rintro rfl
  exact ⟨_, exec_ns_one s, ⟨rfl, rfl, rfl, rfl⟩, rfl⟩

/-- Settles O16: the reset input is the host's next action, whether or not the block is busy. -/
theorem resetInputRestoresTheBlock : Obligations.ResetInputRestoresTheBlock := by
  intro s rest hi
  exact ⟨_, step_of_hostOp hi (.inr nofun), rfl⟩

/-! ### The host registers that a running command does not see -/

/-- The state with other values in CTRL.STRICT, SRC_BASE and SRC_LEN. The source memory is the same, so that, unlike
for `State.withUnseen`, nothing is asked of the window. -/
def State.mapHostRegs (f : Bool → Bool) (b l : BitVec 32 → BitVec 32) (s : State) : State :=
  { s with strict := f s.strict, srcBase := b s.srcBase, srcLen := l s.srcLen }

section
variable {f : Bool → Bool} {b l : BitVec 32 → BitVec 32}

theorem fillFrom_mapHostRegs (k j : Nat) (s : State) :
    fillFrom k j (s.mapHostRegs f b l) = (fillFrom k j s).mapState (State.mapHostRegs f b l) := by
  induction k generalizing j s with
  | zero => rfl
  | succ k ih =>
    by_cases hend : s.cur.foff = s.sessLen
    · rw [fillFrom_succ_of_end hend, fillFrom_succ_of_end (s := s.mapHostRegs f b l) hend]
      rfl
    · cases ha : s.answerAt 0 with
      | data =>
        rw [fillFrom_succ_of_data hend ha, fillFrom_succ_of_data (s := s.mapHostRegs f b l) hend ha]
        exact ih (j + 1) (s.fetchByte j)
      | err =>
        rw [fillFrom_succ_of_err hend ha, fillFrom_succ_of_err (s := s.mapHostRegs f b l) hend ha]
        rfl
      | never =>
        rw [fillFrom_succ_of_never hend ha, fillFrom_succ_of_never (s := s.mapHostRegs f b l) hend ha]
        rfl

theorem takeRest_mapHostRegs (hi need : Nat) (s : State) :
    takeRest hi need (s.mapHostRegs f b l) = (takeRest hi need s).mapState (State.mapHostRegs f b l) := by
  rw [takeRest, takeRest, apply_ite (Res.mapState _)]
  rfl

theorem take_mapHostRegs (n : Nat) (s : State) :
    take n (s.mapHostRegs f b l) = (take n s).mapState (State.mapHostRegs f b l) := by
  rcases Nat.lt_or_ge s.cur.valid.toNat n with hlt | hle
  · cases he : s.cur.exh with
    | false =>
      rw [take_of_refill hlt he, take_of_refill (s := s.mapHostRegs f b l) hlt he,
        ← Res.mapState_bind fun _ => takeRest_mapHostRegs _ _]
      exact congrArg (Res.bind · _) (fillFrom_mapHostRegs 4 0 (s.setCur { s.cur with acc := 0 }))
    | true =>
      rw [take_of_exhausted hlt he, take_of_exhausted (s := s.mapHostRegs f b l) hlt he]
      rfl
  · rw [take_of_held hle, take_of_held (s := s.mapHostRegs f b l) hle]
    rfl

/-- A parser looks at none of the three registers and sets none. -/
theorem Parser.mapHostRegs {α : Type} {p : State → Res α} (hp : Parser p) (s : State) :
    p (s.mapHostRegs f b l) = (p s).mapState (State.mapHostRegs f b l) := by
  induction hp generalizing s with
  | pure v => rfl
  | raise e he => rfl
  | take n hn => exact take_mapHostRegs n s
  | writeObu v o w => rfl
  | look hp ih => exact ih _ _ _ s
  | @bind _ _ p k hp hk ihp ihk => exact (congrArg (Res.bind · k) (ihp s)).trans (Res.mapState_bind ihk)

/-- A command other than BIND runs the same beside other values of the three registers, and leaves them. -/
theorem exec_mapHostRegs {i : Instr} (hi : i ≠ .bind) (s : State) :
    exec i (s.mapHostRegs f b l) = mapNext (State.mapHostRegs f b l) (exec i s) := by
  obtain ⟨legal, body, hexec, hbody⟩ := exec_eq_command hi
  rw [hexec]
  cases legal with
  | false => rfl
  | true =>
    show finish (body (s.checkpoint.mapHostRegs f b l)) = mapNext _ (finish (body s.checkpoint))
    rw [(hbody rfl).mapHostRegs]
    rcases body s.checkpoint with ⟨_ | v, t⟩ | ⟨e, t⟩ | _ <;> rfl

/-- BIND looks at SRC_BASE and SRC_LEN, and no command at all at CTRL.STRICT. -/
theorem exec_mapStrict (i : Instr) (s : State) :
    exec i (s.mapHostRegs f id id) = mapNext (State.mapHostRegs f id id) (exec i s) := by
  by_cases hi : i = .bind
  · rw [hi, exec_bind_eq, exec_bind_eq, show legalWindow (s.mapHostRegs f id id) = legalWindow s from rfl]
    cases legalWindow s <;> rfl
  · exact exec_mapHostRegs hi s

end

/-- Settles O47: no command looks at CTRL.STRICT, and the issue after a write of it samples the value written. -/
theorem policyIsSampledAtIssue : Obligations.PolicyIsSampledAtIssue := by
  refine ⟨fun i s t b h => ?_, fun s v w rest hb hi => ?_⟩
  · have hrun := exec_mapStrict (f := fun _ => b) i s
    rw [h] at hrun
    exact hrun
  · exact ⟨_, _, step_of_idle_regWrite .ctrl hb hi rfl, step_of_idle_regWrite .cmd hb rfl rfl, rfl, rfl, rfl⟩

/-- Settles O48: only BIND looks at the two registers, and a write of one sets no other field. -/
theorem srcRegistersActAtBindOnly : Obligations.SrcRegistersActAtBindOnly := by
  refine ⟨fun i s t b l hi h => ?_, fun s b l h => ?_, fun s v rest hb => ⟨fun hi => ?_, fun hi => ?_⟩⟩
  · have hrun := exec_mapHostRegs (f := id) (b := fun _ => b) (l := fun _ => l) hi s
    rw [h] at hrun
    exact hrun
  · exact ⟨_, exec_bind_of_legal h, rfl, rfl⟩
  · obtain ⟨-, -, -, hbase, -⟩ := hostWritesSetTheirRegister s 0x20 v rest hb hi
    exact hbase rfl
  · obtain ⟨-, -, -, -, hlen, -⟩ := hostWritesSetTheirRegister s 0x28 v rest hb hi
    exact hlen rfl

end Sys2Proof.Machine
end
